-- ==== Sys2Proof/Word.lean ====
section
/-! DEFINITION. The words of the SM83 core and the names of its operands: bytes, 16-bit words, and the
operand tables of 30_encoding.md rules R72 to R77 as types of names. -/

namespace Sys2Proof

/-- An 8-bit value: a byte of the bus or an 8-bit register (00_scope.md rule R5). -/
abbrev Byte := BitVec 8

/-- A 16-bit value: an address, SP, PC or a register pair (00_scope.md rule R5). -/
abbrev Word := BitVec 16

/-- The register table r of rule R72; `hlMem` is index 6, the byte in memory at the address in HL. -/
inductive R8 where
  | b | c | d | e | h | l | hlMem | a
  deriving DecidableEq, Repr

/-- The pair table rp of rule R73. -/
inductive Rp where
  | bc | de | hl | sp
  deriving DecidableEq, Repr

/-- The stack pair table rp2 of rule R74. -/
inductive Rp2 where
  | bc | de | hl | af
  deriving DecidableEq, Repr

/-- The condition table cc of rule R75. -/
inductive Cc where
  | nz | z | nc | c
  deriving DecidableEq, Repr

/-- The table alu of rule R76, in its index order. -/
inductive AluOp where
  | add | adc | sub | sbc | and | xor | or | cp
  deriving DecidableEq, Repr

/-- The table rot of rule R77, in its index order. -/
inductive RotOp where
  | rlc | rrc | rl | rr | sla | sra | swap | srl
  deriving DecidableEq, Repr

end Sys2Proof
end

