-- ==== Sys2Proof/Syntax.lean ====
section
/-! DEFINITION. The instructions: one constructor for each row of spec/opcode_table.json, the 256 rows of the
unprefixed map (30_encoding.md R79 to R82) and the 11 forms of the CB map (R83). The rows with an operand stand first
(Lean compiles a constructor with fields only among the first 244), each part in the table's order. In the names, `AtHl` is the operand (HL), `Imm` is n, `Imm16` is nn, `Off` is e; `AtHlInc` and `AtHlDec` are (HL+) and
(HL-). The operand of an immediate form is the value its rule fetches (30_encoding.md R78). -/

namespace Sys2Proof

/-- An instruction of the SM83 core (30_encoding.md R70, R79 to R84). -/
inductive Instr where
  /-- `LD BC,nn` (41_load16.md R130). -/
  | ldBcImm16 (nn : Word)
  /-- `LD B,n` (40_load8.md R103). -/
  | ldBImm (n : Byte)
  /-- `LD (nn),SP` (41_load16.md R131). -/
  | ldAtImm16Sp (nn : Word)
  /-- `LD C,n` (40_load8.md R103). -/
  | ldCImm (n : Byte)
  /-- `LD DE,nn` (41_load16.md R130). -/
  | ldDeImm16 (nn : Word)
  /-- `LD D,n` (40_load8.md R103). -/
  | ldDImm (n : Byte)
  /-- `JR e` (44_control.md R233). -/
  | jrOff (e : Byte)
  /-- `LD E,n` (40_load8.md R103). -/
  | ldEImm (n : Byte)
  /-- `JR NZ,e` (44_control.md R234). -/
  | jrNzOff (e : Byte)
  /-- `LD HL,nn` (41_load16.md R130). -/
  | ldHlImm16 (nn : Word)
  /-- `LD H,n` (40_load8.md R103). -/
  | ldHImm (n : Byte)
  /-- `JR Z,e` (44_control.md R234). -/
  | jrZOff (e : Byte)
  /-- `LD L,n` (40_load8.md R103). -/
  | ldLImm (n : Byte)
  /-- `JR NC,e` (44_control.md R234). -/
  | jrNcOff (e : Byte)
  /-- `LD SP,nn` (41_load16.md R130). -/
  | ldSpImm16 (nn : Word)
  /-- `LD (HL),n` (40_load8.md R104). -/
  | ldAtHlImm (n : Byte)
  /-- `JR C,e` (44_control.md R234). -/
  | jrCOff (e : Byte)
  /-- `LD A,n` (40_load8.md R103). -/
  | ldAImm (n : Byte)
  /-- `JP NZ,nn` (44_control.md R231). -/
  | jpNzImm16 (nn : Word)
  /-- `JP nn` (44_control.md R230). -/
  | jpImm16 (nn : Word)
  /-- `CALL NZ,nn` (44_control.md R236). -/
  | callNzImm16 (nn : Word)
  /-- `ADD A,n` (42_alu.md R152). -/
  | addAImm (n : Byte)
  /-- `JP Z,nn` (44_control.md R231). -/
  | jpZImm16 (nn : Word)
  /-- `PREFIX CB` (45_misc.md R265). -/
  | prefixCb (op2 : Byte)
  /-- `CALL Z,nn` (44_control.md R236). -/
  | callZImm16 (nn : Word)
  /-- `CALL nn` (44_control.md R235). -/
  | callImm16 (nn : Word)
  /-- `ADC A,n` (42_alu.md R153). -/
  | adcAImm (n : Byte)
  /-- `JP NC,nn` (44_control.md R231). -/
  | jpNcImm16 (nn : Word)
  /-- `CALL NC,nn` (44_control.md R236). -/
  | callNcImm16 (nn : Word)
  /-- `SUB A,n` (42_alu.md R154). -/
  | subAImm (n : Byte)
  /-- `JP C,nn` (44_control.md R231). -/
  | jpCImm16 (nn : Word)
  /-- `CALL C,nn` (44_control.md R236). -/
  | callCImm16 (nn : Word)
  /-- `SBC A,n` (42_alu.md R155). -/
  | sbcAImm (n : Byte)
  /-- `LDH (n),A` (40_load8.md R113). -/
  | ldhAtImmA (n : Byte)
  /-- `AND A,n` (42_alu.md R156). -/
  | andAImm (n : Byte)
  /-- `ADD SP,e` (42_alu.md R167). -/
  | addSpOff (e : Byte)
  /-- `LD (nn),A` (40_load8.md R117). -/
  | ldAtImm16A (nn : Word)
  /-- `XOR A,n` (42_alu.md R157). -/
  | xorAImm (n : Byte)
  /-- `LDH A,(n)` (40_load8.md R114). -/
  | ldhAAtImm (n : Byte)
  /-- `OR A,n` (42_alu.md R158). -/
  | orAImm (n : Byte)
  /-- `LD HL,SP+e` (41_load16.md R133). -/
  | ldHlSpOff (e : Byte)
  /-- `LD A,(nn)` (40_load8.md R118). -/
  | ldAAtImm16 (nn : Word)
  /-- `CP A,n` (42_alu.md R159). -/
  | cpAImm (n : Byte)
  /-- `RLC r` (43_rotate_bit.md R205). -/
  | rlc (r : R8)
  /-- `RRC r` (43_rotate_bit.md R206). -/
  | rrc (r : R8)
  /-- `RL r` (43_rotate_bit.md R207). -/
  | rl (r : R8)
  /-- `RR r` (43_rotate_bit.md R208). -/
  | rr (r : R8)
  /-- `SLA r` (43_rotate_bit.md R209). -/
  | sla (r : R8)
  /-- `SRA r` (43_rotate_bit.md R210). -/
  | sra (r : R8)
  /-- `SWAP r` (43_rotate_bit.md R211). -/
  | swap (r : R8)
  /-- `SRL r` (43_rotate_bit.md R212). -/
  | srl (r : R8)
  /-- `BIT b,r` (43_rotate_bit.md R213). -/
  | bit (b : BitVec 3) (r : R8)
  /-- `RES b,r` (43_rotate_bit.md R214). -/
  | res (b : BitVec 3) (r : R8)
  /-- `SET b,r` (43_rotate_bit.md R215). -/
  | set (b : BitVec 3) (r : R8)
  /-- `NOP` (45_misc.md R260). -/
  | nop
  /-- `LD (BC),A` (40_load8.md R107). -/
  | ldAtBcA
  /-- `INC BC` (42_alu.md R164). -/
  | incBc
  /-- `INC B` (42_alu.md R160). -/
  | incB
  /-- `DEC B` (42_alu.md R162). -/
  | decB
  /-- `RLCA` (43_rotate_bit.md R200). -/
  | rlca
  /-- `ADD HL,BC` (42_alu.md R166). -/
  | addHlBc
  /-- `LD A,(BC)` (40_load8.md R105). -/
  | ldAAtBc
  /-- `DEC BC` (42_alu.md R165). -/
  | decBc
  /-- `INC C` (42_alu.md R160). -/
  | incC
  /-- `DEC C` (42_alu.md R162). -/
  | decC
  /-- `RRCA` (43_rotate_bit.md R201). -/
  | rrca
  /-- `STOP` (45_misc.md R264). -/
  | stop
  /-- `LD (DE),A` (40_load8.md R108). -/
  | ldAtDeA
  /-- `INC DE` (42_alu.md R164). -/
  | incDe
  /-- `INC D` (42_alu.md R160). -/
  | incD
  /-- `DEC D` (42_alu.md R162). -/
  | decD
  /-- `RLA` (43_rotate_bit.md R202). -/
  | rla
  /-- `ADD HL,DE` (42_alu.md R166). -/
  | addHlDe
  /-- `LD A,(DE)` (40_load8.md R106). -/
  | ldAAtDe
  /-- `DEC DE` (42_alu.md R165). -/
  | decDe
  /-- `INC E` (42_alu.md R160). -/
  | incE
  /-- `DEC E` (42_alu.md R162). -/
  | decE
  /-- `RRA` (43_rotate_bit.md R203). -/
  | rra
  /-- `LD (HL+),A` (40_load8.md R111). -/
  | ldAtHlIncA
  /-- `INC HL` (42_alu.md R164). -/
  | incHl
  /-- `INC H` (42_alu.md R160). -/
  | incH
  /-- `DEC H` (42_alu.md R162). -/
  | decH
  /-- `DAA` (42_alu.md R168). -/
  | daa
  /-- `ADD HL,HL` (42_alu.md R166). -/
  | addHlHl
  /-- `LD A,(HL+)` (40_load8.md R109). -/
  | ldAAtHlInc
  /-- `DEC HL` (42_alu.md R165). -/
  | decHl
  /-- `INC L` (42_alu.md R160). -/
  | incL
  /-- `DEC L` (42_alu.md R162). -/
  | decL
  /-- `CPL` (42_alu.md R169). -/
  | cpl
  /-- `LD (HL-),A` (40_load8.md R112). -/
  | ldAtHlDecA
  /-- `INC SP` (42_alu.md R164). -/
  | incSp
  /-- `INC (HL)` (42_alu.md R161). -/
  | incAtHl
  /-- `DEC (HL)` (42_alu.md R163). -/
  | decAtHl
  /-- `SCF` (42_alu.md R170). -/
  | scf
  /-- `ADD HL,SP` (42_alu.md R166). -/
  | addHlSp
  /-- `LD A,(HL-)` (40_load8.md R110). -/
  | ldAAtHlDec
  /-- `DEC SP` (42_alu.md R165). -/
  | decSp
  /-- `INC A` (42_alu.md R160). -/
  | incA
  /-- `DEC A` (42_alu.md R162). -/
  | decA
  /-- `CCF` (42_alu.md R171). -/
  | ccf
  /-- `LD B,B` (40_load8.md R100). -/
  | ldBB
  /-- `LD B,C` (40_load8.md R100). -/
  | ldBC
  /-- `LD B,D` (40_load8.md R100). -/
  | ldBD
  /-- `LD B,E` (40_load8.md R100). -/
  | ldBE
  /-- `LD B,H` (40_load8.md R100). -/
  | ldBH
  /-- `LD B,L` (40_load8.md R100). -/
  | ldBL
  /-- `LD B,(HL)` (40_load8.md R101). -/
  | ldBAtHl
  /-- `LD B,A` (40_load8.md R100). -/
  | ldBA
  /-- `LD C,B` (40_load8.md R100). -/
  | ldCB
  /-- `LD C,C` (40_load8.md R100). -/
  | ldCC
  /-- `LD C,D` (40_load8.md R100). -/
  | ldCD
  /-- `LD C,E` (40_load8.md R100). -/
  | ldCE
  /-- `LD C,H` (40_load8.md R100). -/
  | ldCH
  /-- `LD C,L` (40_load8.md R100). -/
  | ldCL
  /-- `LD C,(HL)` (40_load8.md R101). -/
  | ldCAtHl
  /-- `LD C,A` (40_load8.md R100). -/
  | ldCA
  /-- `LD D,B` (40_load8.md R100). -/
  | ldDB
  /-- `LD D,C` (40_load8.md R100). -/
  | ldDC
  /-- `LD D,D` (40_load8.md R100). -/
  | ldDD
  /-- `LD D,E` (40_load8.md R100). -/
  | ldDE
  /-- `LD D,H` (40_load8.md R100). -/
  | ldDH
  /-- `LD D,L` (40_load8.md R100). -/
  | ldDL
  /-- `LD D,(HL)` (40_load8.md R101). -/
  | ldDAtHl
  /-- `LD D,A` (40_load8.md R100). -/
  | ldDA
  /-- `LD E,B` (40_load8.md R100). -/
  | ldEB
  /-- `LD E,C` (40_load8.md R100). -/
  | ldEC
  /-- `LD E,D` (40_load8.md R100). -/
  | ldED
  /-- `LD E,E` (40_load8.md R100). -/
  | ldEE
  /-- `LD E,H` (40_load8.md R100). -/
  | ldEH
  /-- `LD E,L` (40_load8.md R100). -/
  | ldEL
  /-- `LD E,(HL)` (40_load8.md R101). -/
  | ldEAtHl
  /-- `LD E,A` (40_load8.md R100). -/
  | ldEA
  /-- `LD H,B` (40_load8.md R100). -/
  | ldHB
  /-- `LD H,C` (40_load8.md R100). -/
  | ldHC
  /-- `LD H,D` (40_load8.md R100). -/
  | ldHD
  /-- `LD H,E` (40_load8.md R100). -/
  | ldHE
  /-- `LD H,H` (40_load8.md R100). -/
  | ldHH
  /-- `LD H,L` (40_load8.md R100). -/
  | ldHL
  /-- `LD H,(HL)` (40_load8.md R101). -/
  | ldHAtHl
  /-- `LD H,A` (40_load8.md R100). -/
  | ldHA
  /-- `LD L,B` (40_load8.md R100). -/
  | ldLB
  /-- `LD L,C` (40_load8.md R100). -/
  | ldLC
  /-- `LD L,D` (40_load8.md R100). -/
  | ldLD
  /-- `LD L,E` (40_load8.md R100). -/
  | ldLE
  /-- `LD L,H` (40_load8.md R100). -/
  | ldLH
  /-- `LD L,L` (40_load8.md R100). -/
  | ldLL
  /-- `LD L,(HL)` (40_load8.md R101). -/
  | ldLAtHl
  /-- `LD L,A` (40_load8.md R100). -/
  | ldLA
  /-- `LD (HL),B` (40_load8.md R102). -/
  | ldAtHlB
  /-- `LD (HL),C` (40_load8.md R102). -/
  | ldAtHlC
  /-- `LD (HL),D` (40_load8.md R102). -/
  | ldAtHlD
  /-- `LD (HL),E` (40_load8.md R102). -/
  | ldAtHlE
  /-- `LD (HL),H` (40_load8.md R102). -/
  | ldAtHlH
  /-- `LD (HL),L` (40_load8.md R102). -/
  | ldAtHlL
  /-- `HALT` (45_misc.md R263). -/
  | halt
  /-- `LD (HL),A` (40_load8.md R102). -/
  | ldAtHlA
  /-- `LD A,B` (40_load8.md R100). -/
  | ldAB
  /-- `LD A,C` (40_load8.md R100). -/
  | ldAC
  /-- `LD A,D` (40_load8.md R100). -/
  | ldAD
  /-- `LD A,E` (40_load8.md R100). -/
  | ldAE
  /-- `LD A,H` (40_load8.md R100). -/
  | ldAH
  /-- `LD A,L` (40_load8.md R100). -/
  | ldAL
  /-- `LD A,(HL)` (40_load8.md R101). -/
  | ldAAtHl
  /-- `LD A,A` (40_load8.md R100). -/
  | ldAA
  /-- `ADD A,B` (42_alu.md R152). -/
  | addAB
  /-- `ADD A,C` (42_alu.md R152). -/
  | addAC
  /-- `ADD A,D` (42_alu.md R152). -/
  | addAD
  /-- `ADD A,E` (42_alu.md R152). -/
  | addAE
  /-- `ADD A,H` (42_alu.md R152). -/
  | addAH
  /-- `ADD A,L` (42_alu.md R152). -/
  | addAL
  /-- `ADD A,(HL)` (42_alu.md R152). -/
  | addAAtHl
  /-- `ADD A,A` (42_alu.md R152). -/
  | addAA
  /-- `ADC A,B` (42_alu.md R153). -/
  | adcAB
  /-- `ADC A,C` (42_alu.md R153). -/
  | adcAC
  /-- `ADC A,D` (42_alu.md R153). -/
  | adcAD
  /-- `ADC A,E` (42_alu.md R153). -/
  | adcAE
  /-- `ADC A,H` (42_alu.md R153). -/
  | adcAH
  /-- `ADC A,L` (42_alu.md R153). -/
  | adcAL
  /-- `ADC A,(HL)` (42_alu.md R153). -/
  | adcAAtHl
  /-- `ADC A,A` (42_alu.md R153). -/
  | adcAA
  /-- `SUB A,B` (42_alu.md R154). -/
  | subAB
  /-- `SUB A,C` (42_alu.md R154). -/
  | subAC
  /-- `SUB A,D` (42_alu.md R154). -/
  | subAD
  /-- `SUB A,E` (42_alu.md R154). -/
  | subAE
  /-- `SUB A,H` (42_alu.md R154). -/
  | subAH
  /-- `SUB A,L` (42_alu.md R154). -/
  | subAL
  /-- `SUB A,(HL)` (42_alu.md R154). -/
  | subAAtHl
  /-- `SUB A,A` (42_alu.md R154). -/
  | subAA
  /-- `SBC A,B` (42_alu.md R155). -/
  | sbcAB
  /-- `SBC A,C` (42_alu.md R155). -/
  | sbcAC
  /-- `SBC A,D` (42_alu.md R155). -/
  | sbcAD
  /-- `SBC A,E` (42_alu.md R155). -/
  | sbcAE
  /-- `SBC A,H` (42_alu.md R155). -/
  | sbcAH
  /-- `SBC A,L` (42_alu.md R155). -/
  | sbcAL
  /-- `SBC A,(HL)` (42_alu.md R155). -/
  | sbcAAtHl
  /-- `SBC A,A` (42_alu.md R155). -/
  | sbcAA
  /-- `AND A,B` (42_alu.md R156). -/
  | andAB
  /-- `AND A,C` (42_alu.md R156). -/
  | andAC
  /-- `AND A,D` (42_alu.md R156). -/
  | andAD
  /-- `AND A,E` (42_alu.md R156). -/
  | andAE
  /-- `AND A,H` (42_alu.md R156). -/
  | andAH
  /-- `AND A,L` (42_alu.md R156). -/
  | andAL
  /-- `AND A,(HL)` (42_alu.md R156). -/
  | andAAtHl
  /-- `AND A,A` (42_alu.md R156). -/
  | andAA
  /-- `XOR A,B` (42_alu.md R157). -/
  | xorAB
  /-- `XOR A,C` (42_alu.md R157). -/
  | xorAC
  /-- `XOR A,D` (42_alu.md R157). -/
  | xorAD
  /-- `XOR A,E` (42_alu.md R157). -/
  | xorAE
  /-- `XOR A,H` (42_alu.md R157). -/
  | xorAH
  /-- `XOR A,L` (42_alu.md R157). -/
  | xorAL
  /-- `XOR A,(HL)` (42_alu.md R157). -/
  | xorAAtHl
  /-- `XOR A,A` (42_alu.md R157). -/
  | xorAA
  /-- `OR A,B` (42_alu.md R158). -/
  | orAB
  /-- `OR A,C` (42_alu.md R158). -/
  | orAC
  /-- `OR A,D` (42_alu.md R158). -/
  | orAD
  /-- `OR A,E` (42_alu.md R158). -/
  | orAE
  /-- `OR A,H` (42_alu.md R158). -/
  | orAH
  /-- `OR A,L` (42_alu.md R158). -/
  | orAL
  /-- `OR A,(HL)` (42_alu.md R158). -/
  | orAAtHl
  /-- `OR A,A` (42_alu.md R158). -/
  | orAA
  /-- `CP A,B` (42_alu.md R159). -/
  | cpAB
  /-- `CP A,C` (42_alu.md R159). -/
  | cpAC
  /-- `CP A,D` (42_alu.md R159). -/
  | cpAD
  /-- `CP A,E` (42_alu.md R159). -/
  | cpAE
  /-- `CP A,H` (42_alu.md R159). -/
  | cpAH
  /-- `CP A,L` (42_alu.md R159). -/
  | cpAL
  /-- `CP A,(HL)` (42_alu.md R159). -/
  | cpAAtHl
  /-- `CP A,A` (42_alu.md R159). -/
  | cpAA
  /-- `RET NZ` (44_control.md R238). -/
  | retNz
  /-- `POP BC` (41_load16.md R135). -/
  | popBc
  /-- `PUSH BC` (41_load16.md R134). -/
  | pushBc
  /-- `RST 0x00` (44_control.md R240). -/
  | rst00
  /-- `RET Z` (44_control.md R238). -/
  | retZ
  /-- `RET` (44_control.md R237). -/
  | ret
  /-- `RST 0x08` (44_control.md R240). -/
  | rst08
  /-- `RET NC` (44_control.md R238). -/
  | retNc
  /-- `POP DE` (41_load16.md R135). -/
  | popDe
  /-- `UNDEFINED 0xD3` (45_misc.md R266). -/
  | undefinedD3
  /-- `PUSH DE` (41_load16.md R134). -/
  | pushDe
  /-- `RST 0x10` (44_control.md R240). -/
  | rst10
  /-- `RET C` (44_control.md R238). -/
  | retC
  /-- `RETI` (44_control.md R239). -/
  | reti
  /-- `UNDEFINED 0xDB` (45_misc.md R266). -/
  | undefinedDB
  /-- `UNDEFINED 0xDD` (45_misc.md R266). -/
  | undefinedDD
  /-- `RST 0x18` (44_control.md R240). -/
  | rst18
  /-- `POP HL` (41_load16.md R135). -/
  | popHl
  /-- `LD (C),A` (40_load8.md R115). -/
  | ldAtCA
  /-- `UNDEFINED 0xE3` (45_misc.md R266). -/
  | undefinedE3
  /-- `UNDEFINED 0xE4` (45_misc.md R266). -/
  | undefinedE4
  /-- `PUSH HL` (41_load16.md R134). -/
  | pushHl
  /-- `RST 0x20` (44_control.md R240). -/
  | rst20
  /-- `JP HL` (44_control.md R232). -/
  | jpHl
  /-- `UNDEFINED 0xEB` (45_misc.md R266). -/
  | undefinedEB
  /-- `UNDEFINED 0xEC` (45_misc.md R266). -/
  | undefinedEC
  /-- `UNDEFINED 0xED` (45_misc.md R266). -/
  | undefinedED
  /-- `RST 0x28` (44_control.md R240). -/
  | rst28
  /-- `POP AF` (41_load16.md R135). -/
  | popAf
  /-- `LD A,(C)` (40_load8.md R116). -/
  | ldAAtC
  /-- `DI` (45_misc.md R261). -/
  | di
  /-- `UNDEFINED 0xF4` (45_misc.md R266). -/
  | undefinedF4
  /-- `PUSH AF` (41_load16.md R134). -/
  | pushAf
  /-- `RST 0x30` (44_control.md R240). -/
  | rst30
  /-- `LD SP,HL` (41_load16.md R132). -/
  | ldSpHl
  /-- `EI` (45_misc.md R262). -/
  | ei
  /-- `UNDEFINED 0xFC` (45_misc.md R266). -/
  | undefinedFC
  /-- `UNDEFINED 0xFD` (45_misc.md R266). -/
  | undefinedFD
  /-- `RST 0x38` (44_control.md R240). -/
  | rst38
  deriving DecidableEq, Repr

end Sys2Proof
end

