-- ==== Sys2Proof/WellFormed.lean ====
section
/-! DEFINITION. Which terms of `Instr` are instructions as the decoder gives them. Operand ranges are carried by
the operand types (a bit number is 3 bits wide, an r operand is one of eight names), so one check is left. -/

namespace Sys2Proof

/-- The row PREFIX CB is not an instruction by itself (45_misc.md R265): its two bytes decode to the form of the CB
map that its second byte selects. Every other term is an instruction (or an undefined byte, R266). -/
def Instr.wellFormed : Instr → Bool
  | .prefixCb _ => false
  | .ldBcImm16 _ | .ldBImm _ | .ldAtImm16Sp _ | .ldCImm _ | .ldDeImm16 _ | .ldDImm _
  | .jrOff _ | .ldEImm _ | .jrNzOff _ | .ldHlImm16 _ | .ldHImm _ | .jrZOff _
  | .ldLImm _ | .jrNcOff _ | .ldSpImm16 _ | .ldAtHlImm _ | .jrCOff _ | .ldAImm _
  | .jpNzImm16 _ | .jpImm16 _ | .callNzImm16 _ | .addAImm _ | .jpZImm16 _ | .callZImm16 _
  | .callImm16 _ | .adcAImm _ | .jpNcImm16 _ | .callNcImm16 _ | .subAImm _ | .jpCImm16 _
  | .callCImm16 _ | .sbcAImm _ | .ldhAtImmA _ | .andAImm _ | .addSpOff _ | .ldAtImm16A _
  | .xorAImm _ | .ldhAAtImm _ | .orAImm _ | .ldHlSpOff _ | .ldAAtImm16 _ | .cpAImm _
  | .rlc _ | .rrc _ | .rl _ | .rr _ | .sla _ | .sra _
  | .swap _ | .srl _ | .bit _ _ | .res _ _ | .set _ _ | .nop
  | .ldAtBcA | .incBc | .incB | .decB | .rlca | .addHlBc
  | .ldAAtBc | .decBc | .incC | .decC | .rrca | .stop
  | .ldAtDeA | .incDe | .incD | .decD | .rla | .addHlDe
  | .ldAAtDe | .decDe | .incE | .decE | .rra | .ldAtHlIncA
  | .incHl | .incH | .decH | .daa | .addHlHl | .ldAAtHlInc
  | .decHl | .incL | .decL | .cpl | .ldAtHlDecA | .incSp
  | .incAtHl | .decAtHl | .scf | .addHlSp | .ldAAtHlDec | .decSp
  | .incA | .decA | .ccf | .ldBB | .ldBC | .ldBD
  | .ldBE | .ldBH | .ldBL | .ldBAtHl | .ldBA | .ldCB
  | .ldCC | .ldCD | .ldCE | .ldCH | .ldCL | .ldCAtHl
  | .ldCA | .ldDB | .ldDC | .ldDD | .ldDE | .ldDH
  | .ldDL | .ldDAtHl | .ldDA | .ldEB | .ldEC | .ldED
  | .ldEE | .ldEH | .ldEL | .ldEAtHl | .ldEA | .ldHB
  | .ldHC | .ldHD | .ldHE | .ldHH | .ldHL | .ldHAtHl
  | .ldHA | .ldLB | .ldLC | .ldLD | .ldLE | .ldLH
  | .ldLL | .ldLAtHl | .ldLA | .ldAtHlB | .ldAtHlC | .ldAtHlD
  | .ldAtHlE | .ldAtHlH | .ldAtHlL | .halt | .ldAtHlA | .ldAB
  | .ldAC | .ldAD | .ldAE | .ldAH | .ldAL | .ldAAtHl
  | .ldAA | .addAB | .addAC | .addAD | .addAE | .addAH
  | .addAL | .addAAtHl | .addAA | .adcAB | .adcAC | .adcAD
  | .adcAE | .adcAH | .adcAL | .adcAAtHl | .adcAA | .subAB
  | .subAC | .subAD | .subAE | .subAH | .subAL | .subAAtHl
  | .subAA | .sbcAB | .sbcAC | .sbcAD | .sbcAE | .sbcAH
  | .sbcAL | .sbcAAtHl | .sbcAA | .andAB | .andAC | .andAD
  | .andAE | .andAH | .andAL | .andAAtHl | .andAA | .xorAB
  | .xorAC | .xorAD | .xorAE | .xorAH | .xorAL | .xorAAtHl
  | .xorAA | .orAB | .orAC | .orAD | .orAE | .orAH
  | .orAL | .orAAtHl | .orAA | .cpAB | .cpAC | .cpAD
  | .cpAE | .cpAH | .cpAL | .cpAAtHl | .cpAA | .retNz
  | .popBc | .pushBc | .rst00 | .retZ | .ret | .rst08
  | .retNc | .popDe | .undefinedD3 | .pushDe | .rst10 | .retC
  | .reti | .undefinedDB | .undefinedDD | .rst18 | .popHl | .ldAtCA
  | .undefinedE3 | .undefinedE4 | .pushHl | .rst20 | .jpHl | .undefinedEB
  | .undefinedEC | .undefinedED | .rst28 | .popAf | .ldAAtC | .di
  | .undefinedF4 | .pushAf | .rst30 | .ldSpHl | .ei | .undefinedFC
  | .undefinedFD | .rst38
    => true

end Sys2Proof
end

