-- ==== Sys2Proof/Decode.lean ====
section
/-! DEFINITION. The decoder, total on bytes (30_encoding.md R88), and after it the encoder. The decoder follows the
fields and tables of R71 to R83; the encoder is written row by row from spec/opcode_table.json. -/

namespace Sys2Proof

/-! ## Words and bytes (00_scope.md R9, 30_encoding.md R78) -/

/-- `v[15:8]` of a word. -/
def hiByte (w : Word) : Byte := w.extractLsb' 8 8

/-- `v[7:0]` of a word. -/
def loByte (w : Word) : Byte := w.extractLsb' 0 8

/-- `hi ++ lo` (00_scope.md R9). -/
def joinBytes (hi lo : Byte) : Word := hi ++ lo

/-! ## The fields of an opcode byte (R71) -/

/-- `x = op[7:6]`. -/
def fieldX (op : Byte) : Nat := (op.extractLsb' 6 2).toNat

/-- `y = op[5:3]`. -/
def fieldY (op : Byte) : Nat := (op.extractLsb' 3 3).toNat

/-- `z = op[2:0]`. -/
def fieldZ (op : Byte) : Nat := (op.extractLsb' 0 3).toNat

/-- `p = y >> 1`, that is `op[5:4]`. -/
def fieldP (op : Byte) : Nat := (op.extractLsb' 4 2).toNat

/-- `q = y & 1`, that is `op[3]`. -/
def fieldQ (op : Byte) : Nat := (op.extractLsb' 3 1).toNat

/-! ## The operand tables by index (R72 to R77) -/

/-- The table of R72 by index. -/
def r8OfIndex : Nat → R8
  | 0 => .b
  | 1 => .c
  | 2 => .d
  | 3 => .e
  | 4 => .h
  | 5 => .l
  | 6 => .hlMem
  | _ => .a

/-- The index of an entry of the table of R72. -/
def r8Index : R8 → Nat
  | .b => 0
  | .c => 1
  | .d => 2
  | .e => 3
  | .h => 4
  | .l => 5
  | .hlMem => 6
  | .a => 7

/-- The table of R73 by index. -/
def rpOfIndex : Nat → Rp
  | 0 => .bc
  | 1 => .de
  | 2 => .hl
  | _ => .sp

/-- The index of an entry of the table of R73. -/
def rpIndex : Rp → Nat
  | .bc => 0
  | .de => 1
  | .hl => 2
  | .sp => 3

/-- The table of R74 by index. -/
def rp2OfIndex : Nat → Rp2
  | 0 => .bc
  | 1 => .de
  | 2 => .hl
  | _ => .af

/-- The index of an entry of the table of R74. -/
def rp2Index : Rp2 → Nat
  | .bc => 0
  | .de => 1
  | .hl => 2
  | .af => 3

/-- The table of R75 by index. -/
def ccOfIndex : Nat → Cc
  | 0 => .nz
  | 1 => .z
  | 2 => .nc
  | _ => .c

/-- The index of an entry of the table of R75. -/
def ccIndex : Cc → Nat
  | .nz => 0
  | .z => 1
  | .nc => 2
  | .c => 3

/-- The table of R76 by index. -/
def aluOfIndex : Nat → AluOp
  | 0 => .add
  | 1 => .adc
  | 2 => .sub
  | 3 => .sbc
  | 4 => .and
  | 5 => .xor
  | 6 => .or
  | _ => .cp

/-- The index of an entry of the table of R76. -/
def aluIndex : AluOp → Nat
  | .add => 0
  | .adc => 1
  | .sub => 2
  | .sbc => 3
  | .and => 4
  | .xor => 5
  | .or => 6
  | .cp => 7

/-- The table of R77 by index. -/
def rotOfIndex : Nat → RotOp
  | 0 => .rlc
  | 1 => .rrc
  | 2 => .rl
  | 3 => .rr
  | 4 => .sla
  | 5 => .sra
  | 6 => .swap
  | _ => .srl

/-- The index of an entry of the table of R77. -/
def rotIndex : RotOp → Nat
  | .rlc => 0
  | .rrc => 1
  | .rl => 2
  | .rr => 3
  | .sla => 4
  | .sra => 5
  | .swap => 6
  | .srl => 7

/-! ## The families of the unprefixed map, by table entry (R79 to R82) -/

/-- Group x=1, `LD r[y],r[z]`, with HALT in the place of `LD (HL),(HL)` (R80). -/
def decodeLdR : R8 → R8 → Instr
  | .b, .b => .ldBB
  | .b, .c => .ldBC
  | .b, .d => .ldBD
  | .b, .e => .ldBE
  | .b, .h => .ldBH
  | .b, .l => .ldBL
  | .b, .hlMem => .ldBAtHl
  | .b, .a => .ldBA
  | .c, .b => .ldCB
  | .c, .c => .ldCC
  | .c, .d => .ldCD
  | .c, .e => .ldCE
  | .c, .h => .ldCH
  | .c, .l => .ldCL
  | .c, .hlMem => .ldCAtHl
  | .c, .a => .ldCA
  | .d, .b => .ldDB
  | .d, .c => .ldDC
  | .d, .d => .ldDD
  | .d, .e => .ldDE
  | .d, .h => .ldDH
  | .d, .l => .ldDL
  | .d, .hlMem => .ldDAtHl
  | .d, .a => .ldDA
  | .e, .b => .ldEB
  | .e, .c => .ldEC
  | .e, .d => .ldED
  | .e, .e => .ldEE
  | .e, .h => .ldEH
  | .e, .l => .ldEL
  | .e, .hlMem => .ldEAtHl
  | .e, .a => .ldEA
  | .h, .b => .ldHB
  | .h, .c => .ldHC
  | .h, .d => .ldHD
  | .h, .e => .ldHE
  | .h, .h => .ldHH
  | .h, .l => .ldHL
  | .h, .hlMem => .ldHAtHl
  | .h, .a => .ldHA
  | .l, .b => .ldLB
  | .l, .c => .ldLC
  | .l, .d => .ldLD
  | .l, .e => .ldLE
  | .l, .h => .ldLH
  | .l, .l => .ldLL
  | .l, .hlMem => .ldLAtHl
  | .l, .a => .ldLA
  | .hlMem, .b => .ldAtHlB
  | .hlMem, .c => .ldAtHlC
  | .hlMem, .d => .ldAtHlD
  | .hlMem, .e => .ldAtHlE
  | .hlMem, .h => .ldAtHlH
  | .hlMem, .l => .ldAtHlL
  | .hlMem, .hlMem => .halt
  | .hlMem, .a => .ldAtHlA
  | .a, .b => .ldAB
  | .a, .c => .ldAC
  | .a, .d => .ldAD
  | .a, .e => .ldAE
  | .a, .h => .ldAH
  | .a, .l => .ldAL
  | .a, .hlMem => .ldAAtHl
  | .a, .a => .ldAA

/-- Group x=2, `alu[y] A,r[z]` (R81). -/
def decodeAlu : AluOp → R8 → Instr
  | .add, .b => .addAB
  | .add, .c => .addAC
  | .add, .d => .addAD
  | .add, .e => .addAE
  | .add, .h => .addAH
  | .add, .l => .addAL
  | .add, .hlMem => .addAAtHl
  | .add, .a => .addAA
  | .adc, .b => .adcAB
  | .adc, .c => .adcAC
  | .adc, .d => .adcAD
  | .adc, .e => .adcAE
  | .adc, .h => .adcAH
  | .adc, .l => .adcAL
  | .adc, .hlMem => .adcAAtHl
  | .adc, .a => .adcAA
  | .sub, .b => .subAB
  | .sub, .c => .subAC
  | .sub, .d => .subAD
  | .sub, .e => .subAE
  | .sub, .h => .subAH
  | .sub, .l => .subAL
  | .sub, .hlMem => .subAAtHl
  | .sub, .a => .subAA
  | .sbc, .b => .sbcAB
  | .sbc, .c => .sbcAC
  | .sbc, .d => .sbcAD
  | .sbc, .e => .sbcAE
  | .sbc, .h => .sbcAH
  | .sbc, .l => .sbcAL
  | .sbc, .hlMem => .sbcAAtHl
  | .sbc, .a => .sbcAA
  | .and, .b => .andAB
  | .and, .c => .andAC
  | .and, .d => .andAD
  | .and, .e => .andAE
  | .and, .h => .andAH
  | .and, .l => .andAL
  | .and, .hlMem => .andAAtHl
  | .and, .a => .andAA
  | .xor, .b => .xorAB
  | .xor, .c => .xorAC
  | .xor, .d => .xorAD
  | .xor, .e => .xorAE
  | .xor, .h => .xorAH
  | .xor, .l => .xorAL
  | .xor, .hlMem => .xorAAtHl
  | .xor, .a => .xorAA
  | .or, .b => .orAB
  | .or, .c => .orAC
  | .or, .d => .orAD
  | .or, .e => .orAE
  | .or, .h => .orAH
  | .or, .l => .orAL
  | .or, .hlMem => .orAAtHl
  | .or, .a => .orAA
  | .cp, .b => .cpAB
  | .cp, .c => .cpAC
  | .cp, .d => .cpAD
  | .cp, .e => .cpAE
  | .cp, .h => .cpAH
  | .cp, .l => .cpAL
  | .cp, .hlMem => .cpAAtHl
  | .cp, .a => .cpAA

/-- `alu[y] A,n` (R82, z=6). -/
def decodeAluImm (i : AluOp) (n : Byte) : Instr :=
  match i with
  | .add => .addAImm n
  | .adc => .adcAImm n
  | .sub => .subAImm n
  | .sbc => .sbcAImm n
  | .and => .andAImm n
  | .xor => .xorAImm n
  | .or => .orAImm n
  | .cp => .cpAImm n

/-- `INC r[y]` (R79, z=4). -/
def decodeIncR (i : R8) : Instr :=
  match i with
  | .b => .incB
  | .c => .incC
  | .d => .incD
  | .e => .incE
  | .h => .incH
  | .l => .incL
  | .hlMem => .incAtHl
  | .a => .incA

/-- `DEC r[y]` (R79, z=5). -/
def decodeDecR (i : R8) : Instr :=
  match i with
  | .b => .decB
  | .c => .decC
  | .d => .decD
  | .e => .decE
  | .h => .decH
  | .l => .decL
  | .hlMem => .decAtHl
  | .a => .decA

/-- `LD r[y],n` (R79, z=6). -/
def decodeLdRImm (i : R8) (n : Byte) : Instr :=
  match i with
  | .b => .ldBImm n
  | .c => .ldCImm n
  | .d => .ldDImm n
  | .e => .ldEImm n
  | .h => .ldHImm n
  | .l => .ldLImm n
  | .hlMem => .ldAtHlImm n
  | .a => .ldAImm n

/-- `LD rp[p],nn` (R79, z=1, q=0). -/
def decodeLdRpImm (i : Rp) (nn : Word) : Instr :=
  match i with
  | .bc => .ldBcImm16 nn
  | .de => .ldDeImm16 nn
  | .hl => .ldHlImm16 nn
  | .sp => .ldSpImm16 nn

/-- `ADD HL,rp[p]` (R79, z=1, q=1). -/
def decodeAddHlRp (i : Rp) : Instr :=
  match i with
  | .bc => .addHlBc
  | .de => .addHlDe
  | .hl => .addHlHl
  | .sp => .addHlSp

/-- `INC rp[p]` (R79, z=3, q=0). -/
def decodeIncRp (i : Rp) : Instr :=
  match i with
  | .bc => .incBc
  | .de => .incDe
  | .hl => .incHl
  | .sp => .incSp

/-- `DEC rp[p]` (R79, z=3, q=1). -/
def decodeDecRp (i : Rp) : Instr :=
  match i with
  | .bc => .decBc
  | .de => .decDe
  | .hl => .decHl
  | .sp => .decSp

/-- `POP rp2[p]` (R82, z=1, q=0). -/
def decodePop (i : Rp2) : Instr :=
  match i with
  | .bc => .popBc
  | .de => .popDe
  | .hl => .popHl
  | .af => .popAf

/-- `PUSH rp2[p]` (R82, z=5, q=0). -/
def decodePush (i : Rp2) : Instr :=
  match i with
  | .bc => .pushBc
  | .de => .pushDe
  | .hl => .pushHl
  | .af => .pushAf

/-- `JR cc[y-4],e` (R79, z=0, y=4..7). -/
def decodeJrCc (i : Cc) (e : Byte) : Instr :=
  match i with
  | .nz => .jrNzOff e
  | .z => .jrZOff e
  | .nc => .jrNcOff e
  | .c => .jrCOff e

/-- `RET cc[y]` (R82, z=0, y=0..3). -/
def decodeRetCc (i : Cc) : Instr :=
  match i with
  | .nz => .retNz
  | .z => .retZ
  | .nc => .retNc
  | .c => .retC

/-- `JP cc[y],nn` (R82, z=2, y=0..3). -/
def decodeJpCc (i : Cc) (nn : Word) : Instr :=
  match i with
  | .nz => .jpNzImm16 nn
  | .z => .jpZImm16 nn
  | .nc => .jpNcImm16 nn
  | .c => .jpCImm16 nn

/-- `CALL cc[y],nn` (R82, z=4, y=0..3). -/
def decodeCallCc (i : Cc) (nn : Word) : Instr :=
  match i with
  | .nz => .callNzImm16 nn
  | .z => .callZImm16 nn
  | .nc => .callNcImm16 nn
  | .c => .callCImm16 nn

/-- `RST y*8` (R82, z=7). -/
def decodeRst : Nat → Instr
  | 0 => .rst00
  | 1 => .rst08
  | 2 => .rst10
  | 3 => .rst18
  | 4 => .rst20
  | 5 => .rst28
  | 6 => .rst30
  | _ => .rst38

/-- x=0, z=7 by y (R79). -/
def decodeX0Z7 : Nat → Instr
  | 0 => .rlca
  | 1 => .rrca
  | 2 => .rla
  | 3 => .rra
  | 4 => .daa
  | 5 => .cpl
  | 6 => .scf
  | _ => .ccf

/-- x=0, z=2, q=0 by p (R79). -/
def decodeStoreA : Nat → Instr
  | 0 => .ldAtBcA
  | 1 => .ldAtDeA
  | 2 => .ldAtHlIncA
  | _ => .ldAtHlDecA

/-- x=0, z=2, q=1 by p (R79). -/
def decodeLoadA : Nat → Instr
  | 0 => .ldAAtBc
  | 1 => .ldAAtDe
  | 2 => .ldAAtHlInc
  | _ => .ldAAtHlDec

/-! ## The groups of the unprefixed map -/

/-- Group x=0, by z and then y, or q and p (R79); `n` is the byte after the opcode, `nn` the word after it. -/
def decodeX0 (op n : Byte) (nn : Word) : Instr :=
  let y := fieldY op
  let p := fieldP op
  let q := fieldQ op
  match fieldZ op with
  | 0 =>
    match y with
    | 0 => .nop
    | 1 => .ldAtImm16Sp nn
    | 2 => .stop
    | 3 => .jrOff n
    | _ => decodeJrCc (ccOfIndex (y % 4)) n
  | 1 => if q = 0 then decodeLdRpImm (rpOfIndex p) nn else decodeAddHlRp (rpOfIndex p)
  | 2 => if q = 0 then decodeStoreA p else decodeLoadA p
  | 3 => if q = 0 then decodeIncRp (rpOfIndex p) else decodeDecRp (rpOfIndex p)
  | 4 => decodeIncR (r8OfIndex y)
  | 5 => decodeDecR (r8OfIndex y)
  | 6 => decodeLdRImm (r8OfIndex y) n
  | _ => decodeX0Z7 y

/-- The CB map (R83): x=0 a rotate or shift, x=1 BIT, x=2 RES, x=3 SET, on r[z]. -/
def decodeCb (op2 : Byte) : Instr :=
  let r := r8OfIndex (fieldZ op2)
  let b := BitVec.ofNat 3 (fieldY op2)
  match fieldX op2 with
  | 0 =>
    match rotOfIndex (fieldY op2) with
    | .rlc => .rlc r
    | .rrc => .rrc r
    | .rl => .rl r
    | .rr => .rr r
    | .sla => .sla r
    | .sra => .sra r
    | .swap => .swap r
    | .srl => .srl r
  | 1 => .bit b r
  | 2 => .res b r
  | _ => .set b r

/-- Group x=3, by z and then y, or q and p (R82); the byte after the prefix 0xCB is its second opcode byte. -/
def decodeX3 (op n : Byte) (nn : Word) : Instr :=
  let y := fieldY op
  let p := fieldP op
  let q := fieldQ op
  match fieldZ op with
  | 0 =>
    match y with
    | 4 => .ldhAtImmA n
    | 5 => .addSpOff n
    | 6 => .ldhAAtImm n
    | 7 => .ldHlSpOff n
    | _ => decodeRetCc (ccOfIndex y)
  | 1 =>
    if q = 0 then decodePop (rp2OfIndex p)
    else
      match p with
      | 0 => .ret
      | 1 => .reti
      | 2 => .jpHl
      | _ => .ldSpHl
  | 2 =>
    match y with
    | 4 => .ldAtCA
    | 5 => .ldAtImm16A nn
    | 6 => .ldAAtC
    | 7 => .ldAAtImm16 nn
    | _ => decodeJpCc (ccOfIndex y) nn
  | 3 =>
    match y with
    | 0 => .jpImm16 nn
    | 1 => decodeCb n
    | 2 => .undefinedD3
    | 3 => .undefinedDB
    | 4 => .undefinedE3
    | 5 => .undefinedEB
    | 6 => .di
    | _ => .ei
  | 4 =>
    match y with
    | 4 => .undefinedE4
    | 5 => .undefinedEC
    | 6 => .undefinedF4
    | 7 => .undefinedFC
    | _ => decodeCallCc (ccOfIndex y) nn
  | 5 =>
    if q = 0 then decodePush (rp2OfIndex p)
    else
      match p with
      | 0 => .callImm16 nn
      | 1 => .undefinedDD
      | 2 => .undefinedED
      | _ => .undefinedFD
  | 6 => decodeAluImm (aluOfIndex y) n
  | _ => decodeRst y

/-- The instruction that begins with the byte `op` and goes on with the bytes `b1` and `b2`, of which it uses
as many as its length says (R70, R79 to R84). Total: every byte decodes (R88). -/
def decodeInstr (op b1 b2 : Byte) : Instr :=
  let nn := joinBytes b2 b1
  match fieldX op with
  | 0 => decodeX0 op b1 nn
  | 1 => decodeLdR (r8OfIndex (fieldY op)) (r8OfIndex (fieldZ op))
  | 2 => decodeAlu (aluOfIndex (fieldY op)) (r8OfIndex (fieldZ op))
  | _ => decodeX3 op b1 nn

/-! ## Lengths (R86) and decoding a list of bytes -/

/-- The first bytes of the three-byte instructions (R86). -/
def threeByteOps : List Byte :=
  [0x01, 0x11, 0x21, 0x31, 0x08, 0xC2, 0xC3, 0xC4, 0xCA, 0xCC, 0xCD, 0xD2, 0xD4, 0xDA, 0xDC, 0xEA, 0xFA]

/-- The first bytes of the two-byte instructions, the prefix 0xCB among them (R86). -/
def twoByteOps : List Byte :=
  [0x06, 0x0E, 0x16, 0x1E, 0x26, 0x2E, 0x36, 0x3E, 0x18, 0x20, 0x28, 0x30, 0x38]
    ++ [0xC6, 0xCE, 0xD6, 0xDE, 0xE6, 0xEE, 0xF6, 0xFE, 0xE0, 0xF0, 0xE8, 0xF8, 0xCB]

/-- The length of an instruction by its first byte (R86). -/
def opLength (op : Byte) : Nat :=
  if threeByteOps.contains op then 3 else if twoByteOps.contains op then 2 else 1

/-- Why a list of bytes gives no instruction. -/
inductive DecodeError where
  /-- There is no opcode byte. -/
  | noBytes
  /-- The list ends before the instruction that begins with `op` does. -/
  | truncated (op : Byte)
  deriving DecidableEq, Repr

/-- The first instruction of a list of bytes, and the bytes after it. -/
def decode (bytes : List Byte) : Except DecodeError (Instr × List Byte) :=
  match bytes with
  | [] => .error .noBytes
  | op :: rest =>
    match opLength op, rest with
    | 3, b1 :: b2 :: rest' => .ok (decodeInstr op b1 b2, rest')
    | 2, b1 :: rest' => .ok (decodeInstr op b1 0, rest')
    | 1, rest' => .ok (decodeInstr op 0 0, rest')
    | _, _ => .error (.truncated op)

/-- The instruction the decoder reads from one whose bits, as many as the table gives the row, are `w`: byte 0 is
the first byte, every bit from `nbits` on is 0. -/
def decodeTableWord (nbits w : Nat) : Option Instr :=
  let v := w % 2 ^ nbits
  match decode [BitVec.ofNat 8 v, BitVec.ofNat 8 (v / 256), BitVec.ofNat 8 (v / 65536)] with
  | .ok (i, _) => some i
  | .error _ => none

/-! ## The encoder -/

/-- A byte from its fields `xxyyyzzz` (R71). -/
def byteOfFields (x y z : Nat) : Byte := BitVec.ofNat 8 (64 * x + 8 * y + z)

/-- The bytes of an instruction, lowest address first, row by row from spec/opcode_table.json; a 16-bit immediate is
little-endian (30_encoding.md R78). -/
def encode : Instr → List Byte
  | .ldBcImm16 nn => [0x01, loByte nn, hiByte nn]
  | .ldBImm n => [0x06, n]
  | .ldAtImm16Sp nn => [0x08, loByte nn, hiByte nn]
  | .ldCImm n => [0x0E, n]
  | .ldDeImm16 nn => [0x11, loByte nn, hiByte nn]
  | .ldDImm n => [0x16, n]
  | .jrOff e => [0x18, e]
  | .ldEImm n => [0x1E, n]
  | .jrNzOff e => [0x20, e]
  | .ldHlImm16 nn => [0x21, loByte nn, hiByte nn]
  | .ldHImm n => [0x26, n]
  | .jrZOff e => [0x28, e]
  | .ldLImm n => [0x2E, n]
  | .jrNcOff e => [0x30, e]
  | .ldSpImm16 nn => [0x31, loByte nn, hiByte nn]
  | .ldAtHlImm n => [0x36, n]
  | .jrCOff e => [0x38, e]
  | .ldAImm n => [0x3E, n]
  | .jpNzImm16 nn => [0xC2, loByte nn, hiByte nn]
  | .jpImm16 nn => [0xC3, loByte nn, hiByte nn]
  | .callNzImm16 nn => [0xC4, loByte nn, hiByte nn]
  | .addAImm n => [0xC6, n]
  | .jpZImm16 nn => [0xCA, loByte nn, hiByte nn]
  | .prefixCb op2 => [0xCB, op2]
  | .callZImm16 nn => [0xCC, loByte nn, hiByte nn]
  | .callImm16 nn => [0xCD, loByte nn, hiByte nn]
  | .adcAImm n => [0xCE, n]
  | .jpNcImm16 nn => [0xD2, loByte nn, hiByte nn]
  | .callNcImm16 nn => [0xD4, loByte nn, hiByte nn]
  | .subAImm n => [0xD6, n]
  | .jpCImm16 nn => [0xDA, loByte nn, hiByte nn]
  | .callCImm16 nn => [0xDC, loByte nn, hiByte nn]
  | .sbcAImm n => [0xDE, n]
  | .ldhAtImmA n => [0xE0, n]
  | .andAImm n => [0xE6, n]
  | .addSpOff e => [0xE8, e]
  | .ldAtImm16A nn => [0xEA, loByte nn, hiByte nn]
  | .xorAImm n => [0xEE, n]
  | .ldhAAtImm n => [0xF0, n]
  | .orAImm n => [0xF6, n]
  | .ldHlSpOff e => [0xF8, e]
  | .ldAAtImm16 nn => [0xFA, loByte nn, hiByte nn]
  | .cpAImm n => [0xFE, n]
  | .rlc r => [0xCB, byteOfFields 0 0 (r8Index r)]
  | .rrc r => [0xCB, byteOfFields 0 1 (r8Index r)]
  | .rl r => [0xCB, byteOfFields 0 2 (r8Index r)]
  | .rr r => [0xCB, byteOfFields 0 3 (r8Index r)]
  | .sla r => [0xCB, byteOfFields 0 4 (r8Index r)]
  | .sra r => [0xCB, byteOfFields 0 5 (r8Index r)]
  | .swap r => [0xCB, byteOfFields 0 6 (r8Index r)]
  | .srl r => [0xCB, byteOfFields 0 7 (r8Index r)]
  | .bit b r => [0xCB, byteOfFields 1 b.toNat (r8Index r)]
  | .res b r => [0xCB, byteOfFields 2 b.toNat (r8Index r)]
  | .set b r => [0xCB, byteOfFields 3 b.toNat (r8Index r)]
  | .nop => [0x00]
  | .ldAtBcA => [0x02]
  | .incBc => [0x03]
  | .incB => [0x04]
  | .decB => [0x05]
  | .rlca => [0x07]
  | .addHlBc => [0x09]
  | .ldAAtBc => [0x0A]
  | .decBc => [0x0B]
  | .incC => [0x0C]
  | .decC => [0x0D]
  | .rrca => [0x0F]
  | .stop => [0x10]
  | .ldAtDeA => [0x12]
  | .incDe => [0x13]
  | .incD => [0x14]
  | .decD => [0x15]
  | .rla => [0x17]
  | .addHlDe => [0x19]
  | .ldAAtDe => [0x1A]
  | .decDe => [0x1B]
  | .incE => [0x1C]
  | .decE => [0x1D]
  | .rra => [0x1F]
  | .ldAtHlIncA => [0x22]
  | .incHl => [0x23]
  | .incH => [0x24]
  | .decH => [0x25]
  | .daa => [0x27]
  | .addHlHl => [0x29]
  | .ldAAtHlInc => [0x2A]
  | .decHl => [0x2B]
  | .incL => [0x2C]
  | .decL => [0x2D]
  | .cpl => [0x2F]
  | .ldAtHlDecA => [0x32]
  | .incSp => [0x33]
  | .incAtHl => [0x34]
  | .decAtHl => [0x35]
  | .scf => [0x37]
  | .addHlSp => [0x39]
  | .ldAAtHlDec => [0x3A]
  | .decSp => [0x3B]
  | .incA => [0x3C]
  | .decA => [0x3D]
  | .ccf => [0x3F]
  | .ldBB => [0x40]
  | .ldBC => [0x41]
  | .ldBD => [0x42]
  | .ldBE => [0x43]
  | .ldBH => [0x44]
  | .ldBL => [0x45]
  | .ldBAtHl => [0x46]
  | .ldBA => [0x47]
  | .ldCB => [0x48]
  | .ldCC => [0x49]
  | .ldCD => [0x4A]
  | .ldCE => [0x4B]
  | .ldCH => [0x4C]
  | .ldCL => [0x4D]
  | .ldCAtHl => [0x4E]
  | .ldCA => [0x4F]
  | .ldDB => [0x50]
  | .ldDC => [0x51]
  | .ldDD => [0x52]
  | .ldDE => [0x53]
  | .ldDH => [0x54]
  | .ldDL => [0x55]
  | .ldDAtHl => [0x56]
  | .ldDA => [0x57]
  | .ldEB => [0x58]
  | .ldEC => [0x59]
  | .ldED => [0x5A]
  | .ldEE => [0x5B]
  | .ldEH => [0x5C]
  | .ldEL => [0x5D]
  | .ldEAtHl => [0x5E]
  | .ldEA => [0x5F]
  | .ldHB => [0x60]
  | .ldHC => [0x61]
  | .ldHD => [0x62]
  | .ldHE => [0x63]
  | .ldHH => [0x64]
  | .ldHL => [0x65]
  | .ldHAtHl => [0x66]
  | .ldHA => [0x67]
  | .ldLB => [0x68]
  | .ldLC => [0x69]
  | .ldLD => [0x6A]
  | .ldLE => [0x6B]
  | .ldLH => [0x6C]
  | .ldLL => [0x6D]
  | .ldLAtHl => [0x6E]
  | .ldLA => [0x6F]
  | .ldAtHlB => [0x70]
  | .ldAtHlC => [0x71]
  | .ldAtHlD => [0x72]
  | .ldAtHlE => [0x73]
  | .ldAtHlH => [0x74]
  | .ldAtHlL => [0x75]
  | .halt => [0x76]
  | .ldAtHlA => [0x77]
  | .ldAB => [0x78]
  | .ldAC => [0x79]
  | .ldAD => [0x7A]
  | .ldAE => [0x7B]
  | .ldAH => [0x7C]
  | .ldAL => [0x7D]
  | .ldAAtHl => [0x7E]
  | .ldAA => [0x7F]
  | .addAB => [0x80]
  | .addAC => [0x81]
  | .addAD => [0x82]
  | .addAE => [0x83]
  | .addAH => [0x84]
  | .addAL => [0x85]
  | .addAAtHl => [0x86]
  | .addAA => [0x87]
  | .adcAB => [0x88]
  | .adcAC => [0x89]
  | .adcAD => [0x8A]
  | .adcAE => [0x8B]
  | .adcAH => [0x8C]
  | .adcAL => [0x8D]
  | .adcAAtHl => [0x8E]
  | .adcAA => [0x8F]
  | .subAB => [0x90]
  | .subAC => [0x91]
  | .subAD => [0x92]
  | .subAE => [0x93]
  | .subAH => [0x94]
  | .subAL => [0x95]
  | .subAAtHl => [0x96]
  | .subAA => [0x97]
  | .sbcAB => [0x98]
  | .sbcAC => [0x99]
  | .sbcAD => [0x9A]
  | .sbcAE => [0x9B]
  | .sbcAH => [0x9C]
  | .sbcAL => [0x9D]
  | .sbcAAtHl => [0x9E]
  | .sbcAA => [0x9F]
  | .andAB => [0xA0]
  | .andAC => [0xA1]
  | .andAD => [0xA2]
  | .andAE => [0xA3]
  | .andAH => [0xA4]
  | .andAL => [0xA5]
  | .andAAtHl => [0xA6]
  | .andAA => [0xA7]
  | .xorAB => [0xA8]
  | .xorAC => [0xA9]
  | .xorAD => [0xAA]
  | .xorAE => [0xAB]
  | .xorAH => [0xAC]
  | .xorAL => [0xAD]
  | .xorAAtHl => [0xAE]
  | .xorAA => [0xAF]
  | .orAB => [0xB0]
  | .orAC => [0xB1]
  | .orAD => [0xB2]
  | .orAE => [0xB3]
  | .orAH => [0xB4]
  | .orAL => [0xB5]
  | .orAAtHl => [0xB6]
  | .orAA => [0xB7]
  | .cpAB => [0xB8]
  | .cpAC => [0xB9]
  | .cpAD => [0xBA]
  | .cpAE => [0xBB]
  | .cpAH => [0xBC]
  | .cpAL => [0xBD]
  | .cpAAtHl => [0xBE]
  | .cpAA => [0xBF]
  | .retNz => [0xC0]
  | .popBc => [0xC1]
  | .pushBc => [0xC5]
  | .rst00 => [0xC7]
  | .retZ => [0xC8]
  | .ret => [0xC9]
  | .rst08 => [0xCF]
  | .retNc => [0xD0]
  | .popDe => [0xD1]
  | .undefinedD3 => [0xD3]
  | .pushDe => [0xD5]
  | .rst10 => [0xD7]
  | .retC => [0xD8]
  | .reti => [0xD9]
  | .undefinedDB => [0xDB]
  | .undefinedDD => [0xDD]
  | .rst18 => [0xDF]
  | .popHl => [0xE1]
  | .ldAtCA => [0xE2]
  | .undefinedE3 => [0xE3]
  | .undefinedE4 => [0xE4]
  | .pushHl => [0xE5]
  | .rst20 => [0xE7]
  | .jpHl => [0xE9]
  | .undefinedEB => [0xEB]
  | .undefinedEC => [0xEC]
  | .undefinedED => [0xED]
  | .rst28 => [0xEF]
  | .popAf => [0xF1]
  | .ldAAtC => [0xF2]
  | .di => [0xF3]
  | .undefinedF4 => [0xF4]
  | .pushAf => [0xF5]
  | .rst30 => [0xF7]
  | .ldSpHl => [0xF9]
  | .ei => [0xFB]
  | .undefinedFC => [0xFC]
  | .undefinedFD => [0xFD]
  | .rst38 => [0xFF]

end Sys2Proof
end

