-- ==== Sys2Proof/Config.lean ====
section
/-! DEFINITION. What an implementation fixes (the parameters of 00_scope.md rule R5, the bus among them), the addresses
the core itself fixes (20_memory.md rule R57), and the free value, the draw `stop_wake`. -/

namespace Sys2Proof

/-- `unknown_opcode_policy` (00_scope.md rule R5, 92_eei_decisions.md P3): what an undefined byte does. -/
inductive UnknownOpcodePolicy where
  | lock
  | nopWithWarning
  deriving DecidableEq, Repr

/-- `stop_policy` (00_scope.md rule R5, 92_eei_decisions.md P4): how STOP is modelled. -/
inductive StopPolicy where
  | stopState
  | asHalt
  deriving DecidableEq, Repr

/-- The draw `stop_wake` (00_scope.md rules R5 and R17): a FREE VALUE, one Bool for each draw, the draws
numbered from 0. It has no body, so nothing can be proved of any value of it. Log entry 4. -/
opaque Config.stopWake : Nat → Bool

/-- `read8` of the parameter `bus` (00_scope.md rule R5, 20_memory.md rule R50, parameter P1): the byte and the bus's
next state, from the bus's state and the address, with any side effect. The states of the bus are numbered. It has no
body: what is proved of it holds of every bus. Log entry 1. -/
opaque Config.busRead : Nat → Word → Byte × Nat

/-- `write8` of the parameter `bus` (00_scope.md rule R5, 20_memory.md rule R50, parameter P1): the bus's next state. It
has no body: what is proved of it holds of every bus. Log entry 1. -/
opaque Config.busWrite : Nat → Word → Byte → Nat

/-- The default policies of 00_scope.md rule R5. -/
def Config.defaultUnknownOpcode : UnknownOpcodePolicy := .lock

/-- The default policies of 00_scope.md rule R5. -/
def Config.defaultStop : StopPolicy := .stopState

/-- What a byte of the RAM bus that nothing has written reads as. DESIGN CHOICE (unsafe): the spec leaves the
initial contents open (parameter P2); this is the test bus's choice. Log entry 2. -/
def Config.unlistedByte : Byte := 0x00

/-- IE is the byte at 0xFFFF (10_state.md rule R35). -/
def Config.ieAddr : Word := 0xFFFF

/-- IF is the byte at 0xFF0F (10_state.md rule R35). -/
def Config.ifAddr : Word := 0xFF0F

/-- The first interrupt vector; source k's is this plus 8k (60_exceptions.md rule R301). -/
def Config.vectorBase : Word := 0x0040

/-- The I/O page reached by LDH and LD (C) (30_encoding.md rule R78). -/
def Config.ioPage : Word := 0xFF00

end Sys2Proof
end

