-- ==== Sys2Proof/Machine/State.lean ====
section
/-! DEFINITION. The machine's state as plain data (10_state.md), the reasons a step can stop, and the state
after reset. -/

namespace Sys2Proof.Machine

open Sys2Proof

/-- The bytes of the RAM bus (95_test_vectors.md section 0): those that differ from `Config.unlistedByte`, by strictly
rising address. -/
abbrev Memory := List Host.Cell

/-- The canonical form of a memory: addresses strictly rise and lie in the address space of 20_memory.md
rule R51, and no entry equals what an unlisted address reads as. -/
abbrev Memory.wf (m : Memory) : Prop :=
  m.Pairwise (fun p q => p.1 < q.1) ∧ ∀ p ∈ m, p.1 < 65536 ∧ p.2 ≠ Config.unlistedByte

/-- The state of the parameter `bus` (00_scope.md R5, 20_memory.md R50, parameter P1, log entry 1). -/
inductive Bus where
  /-- The plain RAM of 95_test_vectors.md section 0: a read returns the last byte written and has no side effect. -/
  | ram (mem : Memory)
  /-- Any other bus, in the state numbered `state`: `Config.busRead` and `Config.busWrite` say what it does. -/
  | other (state : Nat)
  deriving DecidableEq, Repr

/-- The bytes of a RAM bus; no other bus lists any. -/
def Bus.memory : Bus → Memory
  | .ram m => m
  | .other _ => []

/-- The bus's data is canonical: the memory of a RAM bus is. -/
abbrev Bus.wf (b : Bus) : Prop := b.memory.wf

/-- The bus is plain RAM. -/
def Bus.isRam : Bus → Bool
  | .ram _ => true
  | .other _ => false

/-- One bus call of the core (20_memory.md rule R50): `read8` of an address, or `write8` of a value. -/
inductive BusCall where
  | read (addr : Word)
  | write (addr : Word) (value : Byte)
  deriving DecidableEq, Repr

/-- The state: the table of 10_state.md, the bus, the two policies of 00_scope.md rule R5, and the model's
own `stopDraws` (log entry 4) and `trace` (log entry 5). -/
structure State where
  /-- The bus calls of the last step, in order (20_memory.md R55, R56). -/
  trace : List BusCall
  /-- A, the accumulator (R20). -/
  a : Byte
  /-- F: Z N H C in bits 7..4 (R25), bits 3..0 always zero (R22). -/
  f : Byte
  /-- B (R20). -/
  b : Byte
  /-- C (R20). -/
  c : Byte
  /-- D (R20). -/
  d : Byte
  /-- E (R20). -/
  e : Byte
  /-- H (R20). -/
  h : Byte
  /-- L (R20). -/
  l : Byte
  /-- SP (R23). -/
  sp : Word
  /-- PC (R24). -/
  pc : Word
  /-- IME (R28). -/
  ime : Bool
  /-- IME_pending, the EI latch (R29). -/
  imePending : Bool
  /-- halted (R30). -/
  halted : Bool
  /-- stopped (R31). -/
  stopped : Bool
  /-- halt_bug (R32). -/
  haltBug : Bool
  /-- locked (R33). -/
  locked : Bool
  /-- locked_opcode (R33). -/
  lockedOpcode : Byte
  /-- locked_addr (R33). -/
  lockedAddr : Word
  /-- m_cycles (R34). -/
  mCycles : BitVec 64
  /-- The bus, IE and IF among its bytes (20_memory.md R50, R51; 10_state.md R35). -/
  bus : Bus
  /-- `unknown_opcode_policy` (00_scope.md R5); no step changes it. -/
  unknownOpcodePolicy : UnknownOpcodePolicy
  /-- `stop_policy` (00_scope.md R5); no step changes it. -/
  stopPolicy : StopPolicy
  /-- How many `stop_wake` draws have been made: the index of the next free value (00_scope.md R17). -/
  stopDraws : Nat
  deriving DecidableEq, Repr

/-- The reset profiles of 10_state.md rule R38. -/
inductive ResetProfile where
  | cold
  | postBoot
  deriving DecidableEq, Repr

/-- The machine right after reset: the PostBoot row of 10_state.md rule R38 on a RAM bus that lists nothing.
The profile is DESIGN CHOICE (log entry 3); so are the bus (log entry 1) and its contents (log entry 2). -/
def State.reset : State where
  trace := []
  a := 0x01
  f := 0xB0
  b := 0x00
  c := 0x13
  d := 0x00
  e := 0xD8
  h := 0x01
  l := 0x4D
  sp := 0xFFFE
  pc := 0x0100
  ime := false
  imePending := false
  halted := false
  stopped := false
  haltBug := false
  locked := false
  lockedOpcode := 0
  lockedAddr := 0
  mCycles := 0
  bus := .ram []
  unknownOpcodePolicy := Config.defaultUnknownOpcode
  stopPolicy := Config.defaultStop
  stopDraws := 0

/-- Why a step can stop with a fault (60_exceptions.md rule R300: the core has exactly one). -/
inductive Fault where
  /-- UnknownOpcode(opcode, address). Raised by the meaning of an undefined byte under
  `unknown_opcode_policy = Lock` (45_misc.md R266) and by every step of a locked core (60_exceptions.md R312).
  `entered` is the state the faulting step leaves behind, which R312 describes. Safe: it is the spec's own
  outcome, and nothing the spec gives the step is lost. -/
  | unknownOpcode (opcode : Byte) (address : Word) (entered : State)
  deriving DecidableEq, Repr

/-- Why an operation has no meaning. No step of this model answers a refusal. -/
inductive Refusal where
  /-- An instruction without a meaning yet, by the mnemonic of its row. Raised by no arm of `exec`: every row
  has its meaning. Safe. -/
  | notModelled (mnemonic : String)
  /-- `request_interrupt` with a source outside 0..4 (60_exceptions.md R318). Raised by the host operation
  `State.requestInterrupt`. Safe: the spec says a model must reject it. -/
  | badInterruptSource (source : Nat)
  /-- A persisted record that is not 24 bytes long (10_state.md R40). Raised by the host operation
  `State.restore`. Safe: the spec gives such a record no meaning. -/
  | badRecord (length : Nat)
  deriving DecidableEq, Repr

end Sys2Proof.Machine
end

