-- ==== Sys2Proof/Machine/Ops.lean ====
section
/-! DEFINITION. The named operations over memory and registers: bus calls, register pairs, fetching, the
stack, the cycle count, taking an interrupt and returning from one, the fault, and the EI commit. -/

namespace Sys2Proof.Machine

open Sys2Proof

/-! ## Extending a byte (00_scope.md rule R8) -/

/-- `sext_16(e)` (R8). -/
def sext16 (e : Byte) : Word := e.signExtend 16

/-- `zext_16(v)` (R8). -/
def zext16 (v : Byte) : Word := v.setWidth 16

/-! ## The bus's bytes -/

/-- The byte held for an address: the first entry listed for it, else `Config.unlistedByte`. -/
def Memory.lookup : Memory → Nat → Byte
  | [], _ => Config.unlistedByte
  | (k, v) :: m, a => if k = a then v else Memory.lookup m a

/-- The memory without any entry for an address. -/
def Memory.erase (m : Memory) (a : Nat) : Memory := m.filter (fun p => p.1 != a)

/-- The memory with an entry put before the first entry of a greater address. -/
def Memory.insert : Memory → Nat → Byte → Memory
  | [], a, v => [(a, v)]
  | (k, w) :: m, a, v => if a < k then (a, v) :: (k, w) :: m else (k, w) :: Memory.insert m a v

/-- What `read8(a)` returns on the RAM bus (20_memory.md rules R50 and R59). -/
def Memory.read (m : Memory) (a : Word) : Byte := m.lookup a.toNat

/-- What `write8(a, v)` leaves on the RAM bus (20_memory.md rules R50 and R59), in canonical form. -/
def Memory.write (m : Memory) (a : Word) (v : Byte) : Memory :=
  if v = Config.unlistedByte then m.erase a.toNat else (m.erase a.toNat).insert a.toNat v

/-- `read8(a)`: the byte, and the bus after the call (00_scope.md R5, 20_memory.md R50). -/
def Bus.read8 (b : Bus) (a : Word) : Byte × Bus :=
  match b with
  | .ram m => (m.read a, .ram m)
  | .other n => ((Config.busRead n a).1, .other (Config.busRead n a).2)

/-- `write8(a, v)`: the bus after the call (00_scope.md R5, 20_memory.md R50). -/
def Bus.write8 (b : Bus) (a : Word) (v : Byte) : Bus :=
  match b with
  | .ram m => .ram (m.write a v)
  | .other n => .other (Config.busWrite n a v)

/-- What one bus call does to the bus: each may change its state (00_scope.md R11). -/
def Bus.after (b : Bus) (c : BusCall) : Bus :=
  match c with
  | .read a => (b.read8 a).2
  | .write a v => b.write8 a v

/-- A bus call of the core (20_memory.md R56). -/
def State.busCall (s : State) (c : BusCall) : State :=
  { s with bus := s.bus.after c, trace := s.trace ++ [c] }

/-- The byte the bus call `read8(a)` would return now; no bus call is made. -/
def State.peek (s : State) (a : Word) : Byte := (s.bus.read8 a).1

/-- The state after the bus call `read8(a)`, whose value is `s.peek a` (`MemRead(a, 1)`, 00_scope.md R11). -/
def State.noteRead (s : State) (a : Word) : State := s.busCall (.read a)

/-- The bus call `write8(a, v)` (`MemWrite(a, 1, v)`, 00_scope.md R11). -/
def State.busWrite (s : State) (a : Word) (v : Byte) : State := s.busCall (.write a v)

/-- The word `MemRead(a, 2)` returns: low byte at a, then high byte at a+1 modulo 65536, from the bus as the first of the
two calls leaves it (00_scope.md R11). -/
def State.peek16 (s : State) (a : Word) : Word := joinBytes ((s.noteRead a).peek (a + 1)) (s.peek a)

/-- The state after `MemRead(a, 2)`: two bus calls, low address first (00_scope.md R11). -/
def State.noteRead16 (s : State) (a : Word) : State := (s.noteRead a).noteRead (a + 1)

/-- `MemWrite(a, 2, v)`: two bus calls, low byte first (00_scope.md R11). -/
def State.busWrite16 (s : State) (a v : Word) : State :=
  (s.busWrite a (loByte v)).busWrite (a + 1) (hiByte v)

/-! ## Registers and pairs (10_state.md rules R21, R22) -/

/-- The mask every read and write of F goes through (R22). -/
def maskF (v : Byte) : Byte := v &&& 0xF0

/-- A read of F: bits 3..0 are zero (R22). -/
def State.getF (s : State) : Byte := maskF s.f

/-- A write of F: bits 3..0 are stored as zero (R22). -/
def State.setF (s : State) (v : Byte) : State := { s with f := maskF v }

/-- `x[BC]` (R21). -/
def State.bc (s : State) : Word := joinBytes s.b s.c

/-- `x[DE]` (R21). -/
def State.de (s : State) : Word := joinBytes s.d s.e

/-- `x[HL]` (R21). -/
def State.hl (s : State) : Word := joinBytes s.h s.l

/-- `x[AF]` (R21, R22). -/
def State.af (s : State) : Word := joinBytes s.a s.getF

/-- `x[BC] <- v` (R21). -/
def State.setBc (s : State) (v : Word) : State := { s with b := hiByte v, c := loByte v }

/-- `x[DE] <- v` (R21). -/
def State.setDe (s : State) (v : Word) : State := { s with d := hiByte v, e := loByte v }

/-- `x[HL] <- v` (R21). -/
def State.setHl (s : State) (v : Word) : State := { s with h := hiByte v, l := loByte v }

/-- `x[AF] <- v` (R21): F is stored through the mask. -/
def State.setAf (s : State) (v : Word) : State := { s with a := hiByte v, f := maskF (loByte v) }

/-- `pc <- target` (00_scope.md R10). -/
def State.jump (s : State) (target : Word) : State := { s with pc := target }

/-! ## Fetching and counting -/

/-- `FetchOpcode()` (60_exceptions.md R309): one bus call at PC; PC advances, but not under the HALT bug;
halt_bug is clear afterwards. -/
def State.fetchOp (s : State) : State :=
  { s.noteRead s.pc with
    pc := if s.haltBug then s.pc else s.pc + 1
    haltBug := false }

/-- `Fetch8()` (00_scope.md R12) of a byte whose value is the instruction's operand. -/
def State.fetchImm (s : State) : State :=
  { s.noteRead s.pc with pc := s.pc + 1 }

/-- The fetch of a one-byte instruction. -/
def State.fetch1 (s : State) : State := s.fetchOp

/-- The fetch of a two-byte instruction: the opcode, then its operand byte or second opcode byte. -/
def State.fetch2 (s : State) : State := s.fetchOp.fetchImm

/-- The fetch of a three-byte instruction: the opcode, then `Fetch16()` (00_scope.md R12). -/
def State.fetch3 (s : State) : State := s.fetchOp.fetchImm.fetchImm

/-- `cycles <- n` counted into m_cycles, modulo 2^64 (10_state.md R34, 60_exceptions.md R313). -/
def State.tick (s : State) (n : Nat) : State := { s with mCycles := s.mCycles + BitVec.ofNat 64 n }

/-! ## The stack (00_scope.md rule R13) -/

/-- `Push16(v)`: SP falls by 2, then the low byte is written at the new SP and the high byte above it. -/
def State.push16 (s : State) (v : Word) : State :=
  ({ s with sp := s.sp - 2 } : State).busWrite16 (s.sp - 2) v

/-- The word `Pop16()` returns. -/
def State.popped (s : State) : Word := s.peek16 s.sp

/-- The state after `Pop16()`: two reads, then SP rises by 2. -/
def State.pop16 (s : State) : State := { s.noteRead16 s.sp with sp := s.sp + 2 }

/-! ## The poll (60_exceptions.md rule R302) -/

/-- `ie` of a poll made now (R302; 10_state.md R35). -/
def State.ie (s : State) : Byte := s.peek Config.ieAddr

/-- `iflag` of a poll made now: IF, read after IE (R302; 10_state.md R35). -/
def State.iflag (s : State) : Byte := (s.noteRead Config.ieAddr).peek Config.ifAddr

/-- `req` of a poll made now, the enabled and requested sources (R302). -/
def State.request (s : State) : Byte := s.ie &&& s.iflag &&& 0x1F

/-- `pending` of a poll made now (R302): an enabled source is requested, whatever IME is. -/
def State.pending (s : State) : Bool := s.request != 0

/-- The two bus calls of the poll: IE, then IF (R302). -/
def State.poll (s : State) : State := (s.noteRead Config.ieAddr).noteRead Config.ifAddr

/-! ## Taking an interrupt and returning from one -/

/-- The index of the lowest set bit among bits 0..4, the source served (60_exceptions.md R303). -/
def lowestSource (req : Byte) : Nat :=
  if req.getLsbD 0 then 0 else if req.getLsbD 1 then 1 else if req.getLsbD 2 then 2
  else if req.getLsbD 3 then 3 else 4

/-- The vector of source k: `0x0040 + 8*k` (60_exceptions.md R301). -/
def vectorOf (k : Nat) : Word := Config.vectorBase + BitVec.ofNat 16 (8 * k)

/-- IF with the bit of source k cleared, the other seven as read (60_exceptions.md R304). -/
def clearSource (iflag : Byte) (k : Nat) : Byte := iflag &&& ~~~((1 : Byte) <<< k)

/-- The address a dispatch pushes: PC, or PC - 1 when halt_bug is set (60_exceptions.md R304, R305). -/
def State.returnAddress (s : State) : Word := if s.haltBug then s.pc - 1 else s.pc

/-- Interrupt dispatch (60_exceptions.md R304 to R306): with `req` and `iflag` from the step's poll, IF is
written with the served bit cleared, IME and IME_pending are cleared, the return address is pushed, halt_bug is
cleared and PC is the vector. -/
def State.dispatchInterrupt (s : State) (req iflag : Byte) : State :=
  let k := lowestSource req
  let s1 := s.busWrite Config.ifAddr (clearSource iflag k)
  let s2 : State := { s1 with ime := false, imePending := false, haltBug := false }
  ((s2.push16 s.returnAddress).jump (vectorOf k)).tick 5

/-- `x[PC] <- Pop16()` (44_control.md R237). -/
def State.returnPop (s : State) : State := s.pop16.jump s.popped

/-- The return from an interrupt: `x[PC] <- Pop16(); IME <- 1` (44_control.md R239). -/
def State.returnFromInterrupt (s : State) : State := { s.returnPop with ime := true }

/-- The EI commit (60_exceptions.md R307), with `pend0` the value of IME_pending at the start of the step. -/
def State.commitEi (s : State) (pend0 : Bool) : State :=
  if pend0 && s.imePending then { s with ime := true, imePending := false } else s

/-! ## The fault (60_exceptions.md rules R300, R312) -/

/-- The state entered by a step that raises UnknownOpcode: locked, with the opcode and its address recorded
(45_misc.md R266). -/
def State.lock (s : State) (op : Byte) (addr : Word) : State :=
  { s with locked := true, lockedOpcode := op, lockedAddr := addr }

end Sys2Proof.Machine
end

