-- ==== Sys2Proof/Machine/Flags.lean ====
section
/-! DEFINITION. The flags and every flag computation (10_state.md R25 to R27, 42_alu.md, 43_rotate_bit.md).
Sums and differences are over the integers before truncation (00_scope.md R7). -/

namespace Sys2Proof.Machine

open Sys2Proof

/-- `F.Z`, bit 7 of F (00_scope.md R15). -/
def State.flagZ (s : State) : Bool := s.f.getLsbD 7

/-- `F.N`, bit 6 of F (00_scope.md R15). -/
def State.flagN (s : State) : Bool := s.f.getLsbD 6

/-- `F.H`, bit 5 of F (00_scope.md R15). -/
def State.flagH (s : State) : Bool := s.f.getLsbD 5

/-- `F.C`, bit 4 of F (00_scope.md R15). -/
def State.flagC (s : State) : Bool := s.f.getLsbD 4

/-- `bool(c)` as a byte. -/
def bitByte (c : Bool) : Byte := if c then 1 else 0

/-- `F = Z<<7 | N<<6 | H<<5 | C<<4` (10_state.md R25). -/
def packF (z n h c : Bool) : Byte :=
  (bitByte z <<< 7) ||| (bitByte n <<< 6) ||| (bitByte h <<< 5) ||| (bitByte c <<< 4)

/-- The four flags written at once; an unchanged flag is given its old value. -/
def State.setFlags (s : State) (z n h c : Bool) : State := { s with f := packF z n h c }

/-- A byte result with its four flags. -/
structure ByteResult where
  value : Byte
  z : Bool
  n : Bool
  h : Bool
  c : Bool
  deriving DecidableEq, Repr

/-- The low nibble of a byte as a number: `v & 0x0F`. -/
def lowNibble (v : Byte) : Nat := (v &&& 0x0F).toNat

/-- A flag as a number, 0 or 1. -/
def carryIn (c : Bool) : Nat := if c then 1 else 0

/-- The sum of ADD and ADC (42_alu.md R152, R153). -/
def add8 (a v : Byte) (cin : Bool) : ByteResult :=
  let s := a.toNat + v.toNat + carryIn cin
  { value := BitVec.ofNat 8 s
    z := BitVec.ofNat 8 s == 0
    n := false
    h := decide (lowNibble a + lowNibble v + carryIn cin > 0x0F)
    c := decide (s > 0xFF) }

/-- The difference of SUB, SBC and CP (42_alu.md R154, R155, R159). -/
def sub8 (a v : Byte) (cin : Bool) : ByteResult :=
  let d : Int := (a.toNat : Int) - v.toNat - carryIn cin
  { value := BitVec.ofInt 8 d
    z := BitVec.ofInt 8 d == 0
    n := true
    h := decide ((lowNibble a : Int) - lowNibble v - carryIn cin < 0)
    c := decide (d < 0) }

/-- A logical result: Z from the value, N and C clear, H as given (42_alu.md R156 to R158). -/
def logic8 (value : Byte) (h : Bool) : ByteResult :=
  { value := value, z := value == 0, n := false, h := h, c := false }

/-- The eight ALU operations on A's value, the operand and the carry flag (42_alu.md R152 to R159). The
value of CP is A's own: it discards its difference. -/
def aluResult (op : AluOp) (a v : Byte) (cin : Bool) : ByteResult :=
  match op with
  | .add => add8 a v false
  | .adc => add8 a v cin
  | .sub => sub8 a v false
  | .sbc => sub8 a v cin
  | .and => logic8 (a &&& v) true
  | .xor => logic8 (a ^^^ v) false
  | .or => logic8 (a ||| v) false
  | .cp => { sub8 a v false with value := a }

/-- INC of a byte; C is the old carry (42_alu.md R160). -/
def inc8 (v : Byte) (c : Bool) : ByteResult :=
  { value := v + 1, z := v + 1 == 0, n := false, h := decide (lowNibble v = 0x0F), c := c }

/-- DEC of a byte; C is the old carry (42_alu.md R162). -/
def dec8 (v : Byte) (c : Bool) : ByteResult :=
  { value := v - 1, z := v - 1 == 0, n := true, h := decide (lowNibble v = 0), c := c }

/-- The carry of `ADD HL,rp` out of bit 11 (42_alu.md R166). -/
def addHlH (h w : Word) : Bool := decide ((h &&& 0x0FFF).toNat + (w &&& 0x0FFF).toNat > 0x0FFF)

/-- The carry of `ADD HL,rp` out of bit 15 (42_alu.md R166). -/
def addHlC (h w : Word) : Bool := decide (h.toNat + w.toNat > 0xFFFF)

/-- H of `ADD SP,e` and `LD HL,SP+e`, with e the unsigned byte (42_alu.md R167, 41_load16.md R133). -/
def spOffH (sp : Word) (e : Byte) : Bool := decide ((sp &&& 0x0F).toNat + lowNibble e > 0x0F)

/-- C of `ADD SP,e` and `LD HL,SP+e`, with e the unsigned byte (42_alu.md R167, 41_load16.md R133). -/
def spOffC (sp : Word) (e : Byte) : Bool := decide ((sp &&& 0xFF).toNat + e.toNat > 0xFF)

/-- A and C after DAA from A, N, H and C, by the pseudocode of 42_alu.md R168. -/
def daaResult (a : Byte) (n h c : Bool) : Byte × Bool :=
  if n then
    let a1 := if c then a - 0x60 else a
    (if h then a1 - 0x06 else a1, c)
  else
    let big := c || decide (a.toNat > 0x99)
    let a1 := if big then a + 0x60 else a
    (if h || decide (lowNibble a > 0x09) then a1 + 0x06 else a1, big)

/-- The eight CB rotates and shifts: the result and the bit that goes to C (43_rotate_bit.md R205 to R212;
SWAP clears C). -/
def rotResult (op : RotOp) (v : Byte) (cin : Bool) : Byte × Bool :=
  let top := v.getLsbD 7
  let low := v.getLsbD 0
  match op with
  | .rlc => ((v <<< 1) ||| bitByte top, top)
  | .rrc => ((v >>> 1) ||| (bitByte low <<< 7), low)
  | .rl => ((v <<< 1) ||| bitByte cin, top)
  | .rr => ((v >>> 1) ||| (bitByte cin <<< 7), low)
  | .sla => (v <<< 1, top)
  | .sra => ((v >>> 1) ||| (v &&& 0x80), low)
  | .swap => (((v &&& 0x0F) <<< 4) ||| (v >>> 4), false)
  | .srl => (v >>> 1, low)

/-- `v & ~(1 << b)` (43_rotate_bit.md R214). -/
def resetBit (b : BitVec 3) (v : Byte) : Byte := v &&& ~~~((1 : Byte) <<< b.toNat)

/-- `v | (1 << b)` (43_rotate_bit.md R215). -/
def setBit (b : BitVec 3) (v : Byte) : Byte := v ||| ((1 : Byte) <<< b.toNat)

/-- `v[b]` (43_rotate_bit.md R213). -/
def testBit (b : BitVec 3) (v : Byte) : Bool := v.getLsbD b.toNat

end Sys2Proof.Machine
end

