-- ==== Sys2Proof/Machine/Operands.lean ====
section
/-! DEFINITION. Every operand form: the tables r, rp, rp2 and cc, and the I/O page addresses
(30_encoding.md R72 to R75 and R78). -/

namespace Sys2Proof.Machine

open Sys2Proof

/-- The value `getr` returns (R72): a register, or the byte at HL. -/
def State.getR (s : State) (r : R8) : Byte :=
  match r with
  | .b => s.b
  | .c => s.c
  | .d => s.d
  | .e => s.e
  | .h => s.h
  | .l => s.l
  | .hlMem => s.peek s.hl
  | .a => s.a

/-- The state after `getr` (R72): one bus call if the operand is (HL), none otherwise. -/
def State.touchR (s : State) (r : R8) : State :=
  match r with
  | .hlMem => s.noteRead s.hl
  | .b | .c | .d | .e | .h | .l | .a => s

/-- `setr` (R72): a register is written, or the byte at HL. -/
def State.setR (s : State) (r : R8) (v : Byte) : State :=
  match r with
  | .b => { s with b := v }
  | .c => { s with c := v }
  | .d => { s with d := v }
  | .e => { s with e := v }
  | .h => { s with h := v }
  | .l => { s with l := v }
  | .hlMem => s.busWrite s.hl v
  | .a => { s with a := v }

/-- `x[rp[p]]` (R73). -/
def State.getRp (s : State) (p : Rp) : Word :=
  match p with
  | .bc => s.bc
  | .de => s.de
  | .hl => s.hl
  | .sp => s.sp

/-- `x[rp[p]] <- v` (R73). -/
def State.setRp (s : State) (p : Rp) (v : Word) : State :=
  match p with
  | .bc => s.setBc v
  | .de => s.setDe v
  | .hl => s.setHl v
  | .sp => { s with sp := v }

/-- `x[rp2[p]]` (R74). -/
def State.getRp2 (s : State) (p : Rp2) : Word :=
  match p with
  | .bc => s.bc
  | .de => s.de
  | .hl => s.hl
  | .af => s.af

/-- `x[rp2[p]] <- v` (R74). -/
def State.setRp2 (s : State) (p : Rp2) (v : Word) : State :=
  match p with
  | .bc => s.setBc v
  | .de => s.setDe v
  | .hl => s.setHl v
  | .af => s.setAf v

/-- `cond(cc)` (R75). -/
def State.cond (s : State) (cc : Cc) : Bool :=
  match cc with
  | .nz => !s.flagZ
  | .z => s.flagZ
  | .nc => !s.flagC
  | .c => s.flagC

/-- `0xFF00 + zext_16(n)`, the I/O page address of LDH and LD (C) (R78). -/
def ioAddr (n : Byte) : Word := Config.ioPage + zext16 n

end Sys2Proof.Machine
end

