-- ==== Sys2Proof/Machine/Alu.lean ====
section
/-! DEFINITION. Arithmetic and logic (42_alu.md R150 to R171). -/

namespace Sys2Proof.Machine

open Sys2Proof

/-- A byte result's flags are written. -/
def State.setResultFlags (s : State) (r : ByteResult) : State := s.setFlags r.z r.n r.h r.c

/-- An ALU operation on A and an operand byte: A and the four flags are written (R152 to R159; CP gives A back its
own value). -/
def State.applyAlu (s : State) (op : AluOp) (v : Byte) : State :=
  let r := aluResult op s.a v s.flagC
  ({ s with a := r.value } : State).setResultFlags r

/-- `op A,r` and `op A,(HL)`, in `n` M-cycles (R151). -/
def aluR (op : AluOp) (src : R8) (n : Nat) (s : State) : State :=
  let s1 := s.fetch1
  ((s1.touchR src).applyAlu op (s1.getR src)).tick n

/-- `op A,n` (R151). -/
def aluImm (op : AluOp) (v : Byte) (s : State) : State := (s.fetch2.applyAlu op v).tick 2

/-- `INC r` and `INC (HL)`: C is kept (R160, R161). -/
def incR (r : R8) (n : Nat) (s : State) : State :=
  let s1 := s.fetch1
  let res := inc8 (s1.getR r) s1.flagC
  (((s1.touchR r).setR r res.value).setResultFlags res).tick n

/-- `DEC r` and `DEC (HL)`: C is kept (R162, R163). -/
def decR (r : R8) (n : Nat) (s : State) : State :=
  let s1 := s.fetch1
  let res := dec8 (s1.getR r) s1.flagC
  (((s1.touchR r).setR r res.value).setResultFlags res).tick n

/-- `INC rp`: no flag changes (R164). -/
def incPair (p : Rp) (s : State) : State :=
  let s1 := s.fetch1
  (s1.setRp p (s1.getRp p + 1)).tick 2

/-- `DEC rp`: no flag changes (R165). -/
def decPair (p : Rp) (s : State) : State :=
  let s1 := s.fetch1
  (s1.setRp p (s1.getRp p - 1)).tick 2

/-- `ADD HL,rp`: Z is kept, H is the carry out of bit 11 (R166). -/
def addHl (p : Rp) (s : State) : State :=
  let s1 := s.fetch1
  let w := s1.getRp p
  ((s1.setHl (s1.hl + w)).setFlags s1.flagZ false (addHlH s1.hl w) (addHlC s1.hl w)).tick 2

/-- `ADD SP,e`: the flags of `LD HL,SP+e` (R167). -/
def addSp (e : Byte) (s : State) : State :=
  let s1 := s.fetch2
  (({ s1 with sp := s1.sp + sext16 e } : State).setFlags false false (spOffH s1.sp e) (spOffC s1.sp e)).tick 4

/-- `DAA`: N is kept, H is cleared, Z is computed from the adjusted A (R168). -/
def daa (s : State) : State :=
  let s1 := s.fetch1
  let r := daaResult s1.a s1.flagN s1.flagH s1.flagC
  (({ s1 with a := r.1 } : State).setFlags (r.1 == 0) s1.flagN false r.2).tick 1

/-- `CPL`: N and H are set (R169). -/
def cpl (s : State) : State :=
  let s1 := s.fetch1
  (({ s1 with a := ~~~s1.a } : State).setFlags s1.flagZ true true s1.flagC).tick 1

/-- `SCF` (R170). -/
def scf (s : State) : State := (s.fetch1.setFlags s.fetch1.flagZ false false true).tick 1

/-- `CCF` (R171). -/
def ccf (s : State) : State := (s.fetch1.setFlags s.fetch1.flagZ false false (!s.fetch1.flagC)).tick 1

/-- `ADD A,n` (R152). -/
def execAddAImm (n : Byte) (s : State) : Host.Outcome State Fault Refusal :=
  .next (aluImm .add n s)

/-- `ADC A,n` (R153). -/
def execAdcAImm (n : Byte) (s : State) : Host.Outcome State Fault Refusal :=
  .next (aluImm .adc n s)

/-- `SUB A,n` (R154). -/
def execSubAImm (n : Byte) (s : State) : Host.Outcome State Fault Refusal :=
  .next (aluImm .sub n s)

/-- `SBC A,n` (R155). -/
def execSbcAImm (n : Byte) (s : State) : Host.Outcome State Fault Refusal :=
  .next (aluImm .sbc n s)

/-- `AND A,n` (R156). -/
def execAndAImm (n : Byte) (s : State) : Host.Outcome State Fault Refusal :=
  .next (aluImm .and n s)

/-- `ADD SP,e` (R167). -/
def execAddSpOff (e : Byte) (s : State) : Host.Outcome State Fault Refusal :=
  .next (addSp e s)

/-- `XOR A,n` (R157). -/
def execXorAImm (n : Byte) (s : State) : Host.Outcome State Fault Refusal :=
  .next (aluImm .xor n s)

/-- `OR A,n` (R158). -/
def execOrAImm (n : Byte) (s : State) : Host.Outcome State Fault Refusal :=
  .next (aluImm .or n s)

/-- `CP A,n` (R159). -/
def execCpAImm (n : Byte) (s : State) : Host.Outcome State Fault Refusal :=
  .next (aluImm .cp n s)

/-- `INC BC` (R164). -/
def execIncBc (s : State) : Host.Outcome State Fault Refusal :=
  .next (incPair .bc s)

/-- `INC B` (R160). -/
def execIncB (s : State) : Host.Outcome State Fault Refusal :=
  .next (incR .b 1 s)

/-- `DEC B` (R162). -/
def execDecB (s : State) : Host.Outcome State Fault Refusal :=
  .next (decR .b 1 s)

/-- `ADD HL,BC` (R166). -/
def execAddHlBc (s : State) : Host.Outcome State Fault Refusal :=
  .next (addHl .bc s)

/-- `DEC BC` (R165). -/
def execDecBc (s : State) : Host.Outcome State Fault Refusal :=
  .next (decPair .bc s)

/-- `INC C` (R160). -/
def execIncC (s : State) : Host.Outcome State Fault Refusal :=
  .next (incR .c 1 s)

/-- `DEC C` (R162). -/
def execDecC (s : State) : Host.Outcome State Fault Refusal :=
  .next (decR .c 1 s)

/-- `INC DE` (R164). -/
def execIncDe (s : State) : Host.Outcome State Fault Refusal :=
  .next (incPair .de s)

/-- `INC D` (R160). -/
def execIncD (s : State) : Host.Outcome State Fault Refusal :=
  .next (incR .d 1 s)

/-- `DEC D` (R162). -/
def execDecD (s : State) : Host.Outcome State Fault Refusal :=
  .next (decR .d 1 s)

/-- `ADD HL,DE` (R166). -/
def execAddHlDe (s : State) : Host.Outcome State Fault Refusal :=
  .next (addHl .de s)

/-- `DEC DE` (R165). -/
def execDecDe (s : State) : Host.Outcome State Fault Refusal :=
  .next (decPair .de s)

/-- `INC E` (R160). -/
def execIncE (s : State) : Host.Outcome State Fault Refusal :=
  .next (incR .e 1 s)

/-- `DEC E` (R162). -/
def execDecE (s : State) : Host.Outcome State Fault Refusal :=
  .next (decR .e 1 s)

/-- `INC HL` (R164). -/
def execIncHl (s : State) : Host.Outcome State Fault Refusal :=
  .next (incPair .hl s)

/-- `INC H` (R160). -/
def execIncH (s : State) : Host.Outcome State Fault Refusal :=
  .next (incR .h 1 s)

/-- `DEC H` (R162). -/
def execDecH (s : State) : Host.Outcome State Fault Refusal :=
  .next (decR .h 1 s)

/-- `DAA` (R168). -/
def execDaa (s : State) : Host.Outcome State Fault Refusal :=
  .next (daa s)

/-- `ADD HL,HL` (R166). -/
def execAddHlHl (s : State) : Host.Outcome State Fault Refusal :=
  .next (addHl .hl s)

/-- `DEC HL` (R165). -/
def execDecHl (s : State) : Host.Outcome State Fault Refusal :=
  .next (decPair .hl s)

/-- `INC L` (R160). -/
def execIncL (s : State) : Host.Outcome State Fault Refusal :=
  .next (incR .l 1 s)

/-- `DEC L` (R162). -/
def execDecL (s : State) : Host.Outcome State Fault Refusal :=
  .next (decR .l 1 s)

/-- `CPL` (R169). -/
def execCpl (s : State) : Host.Outcome State Fault Refusal :=
  .next (cpl s)

/-- `INC SP` (R164). -/
def execIncSp (s : State) : Host.Outcome State Fault Refusal :=
  .next (incPair .sp s)

/-- `INC (HL)` (R161). -/
def execIncAtHl (s : State) : Host.Outcome State Fault Refusal :=
  .next (incR .hlMem 3 s)

/-- `DEC (HL)` (R163). -/
def execDecAtHl (s : State) : Host.Outcome State Fault Refusal :=
  .next (decR .hlMem 3 s)

/-- `SCF` (R170). -/
def execScf (s : State) : Host.Outcome State Fault Refusal :=
  .next (scf s)

/-- `ADD HL,SP` (R166). -/
def execAddHlSp (s : State) : Host.Outcome State Fault Refusal :=
  .next (addHl .sp s)

/-- `DEC SP` (R165). -/
def execDecSp (s : State) : Host.Outcome State Fault Refusal :=
  .next (decPair .sp s)

/-- `INC A` (R160). -/
def execIncA (s : State) : Host.Outcome State Fault Refusal :=
  .next (incR .a 1 s)

/-- `DEC A` (R162). -/
def execDecA (s : State) : Host.Outcome State Fault Refusal :=
  .next (decR .a 1 s)

/-- `CCF` (R171). -/
def execCcf (s : State) : Host.Outcome State Fault Refusal :=
  .next (ccf s)

/-- `ADD A,B` (R152). -/
def execAddAB (s : State) : Host.Outcome State Fault Refusal :=
  .next (aluR .add .b 1 s)

/-- `ADD A,C` (R152). -/
def execAddAC (s : State) : Host.Outcome State Fault Refusal :=
  .next (aluR .add .c 1 s)

/-- `ADD A,D` (R152). -/
def execAddAD (s : State) : Host.Outcome State Fault Refusal :=
  .next (aluR .add .d 1 s)

/-- `ADD A,E` (R152). -/
def execAddAE (s : State) : Host.Outcome State Fault Refusal :=
  .next (aluR .add .e 1 s)

/-- `ADD A,H` (R152). -/
def execAddAH (s : State) : Host.Outcome State Fault Refusal :=
  .next (aluR .add .h 1 s)

/-- `ADD A,L` (R152). -/
def execAddAL (s : State) : Host.Outcome State Fault Refusal :=
  .next (aluR .add .l 1 s)

/-- `ADD A,(HL)` (R152). -/
def execAddAAtHl (s : State) : Host.Outcome State Fault Refusal :=
  .next (aluR .add .hlMem 2 s)

/-- `ADD A,A` (R152). -/
def execAddAA (s : State) : Host.Outcome State Fault Refusal :=
  .next (aluR .add .a 1 s)

/-- `ADC A,B` (R153). -/
def execAdcAB (s : State) : Host.Outcome State Fault Refusal :=
  .next (aluR .adc .b 1 s)

/-- `ADC A,C` (R153). -/
def execAdcAC (s : State) : Host.Outcome State Fault Refusal :=
  .next (aluR .adc .c 1 s)

/-- `ADC A,D` (R153). -/
def execAdcAD (s : State) : Host.Outcome State Fault Refusal :=
  .next (aluR .adc .d 1 s)

/-- `ADC A,E` (R153). -/
def execAdcAE (s : State) : Host.Outcome State Fault Refusal :=
  .next (aluR .adc .e 1 s)

/-- `ADC A,H` (R153). -/
def execAdcAH (s : State) : Host.Outcome State Fault Refusal :=
  .next (aluR .adc .h 1 s)

/-- `ADC A,L` (R153). -/
def execAdcAL (s : State) : Host.Outcome State Fault Refusal :=
  .next (aluR .adc .l 1 s)

/-- `ADC A,(HL)` (R153). -/
def execAdcAAtHl (s : State) : Host.Outcome State Fault Refusal :=
  .next (aluR .adc .hlMem 2 s)

/-- `ADC A,A` (R153). -/
def execAdcAA (s : State) : Host.Outcome State Fault Refusal :=
  .next (aluR .adc .a 1 s)

/-- `SUB A,B` (R154). -/
def execSubAB (s : State) : Host.Outcome State Fault Refusal :=
  .next (aluR .sub .b 1 s)

/-- `SUB A,C` (R154). -/
def execSubAC (s : State) : Host.Outcome State Fault Refusal :=
  .next (aluR .sub .c 1 s)

/-- `SUB A,D` (R154). -/
def execSubAD (s : State) : Host.Outcome State Fault Refusal :=
  .next (aluR .sub .d 1 s)

/-- `SUB A,E` (R154). -/
def execSubAE (s : State) : Host.Outcome State Fault Refusal :=
  .next (aluR .sub .e 1 s)

/-- `SUB A,H` (R154). -/
def execSubAH (s : State) : Host.Outcome State Fault Refusal :=
  .next (aluR .sub .h 1 s)

/-- `SUB A,L` (R154). -/
def execSubAL (s : State) : Host.Outcome State Fault Refusal :=
  .next (aluR .sub .l 1 s)

/-- `SUB A,(HL)` (R154). -/
def execSubAAtHl (s : State) : Host.Outcome State Fault Refusal :=
  .next (aluR .sub .hlMem 2 s)

/-- `SUB A,A` (R154). -/
def execSubAA (s : State) : Host.Outcome State Fault Refusal :=
  .next (aluR .sub .a 1 s)

/-- `SBC A,B` (R155). -/
def execSbcAB (s : State) : Host.Outcome State Fault Refusal :=
  .next (aluR .sbc .b 1 s)

/-- `SBC A,C` (R155). -/
def execSbcAC (s : State) : Host.Outcome State Fault Refusal :=
  .next (aluR .sbc .c 1 s)

/-- `SBC A,D` (R155). -/
def execSbcAD (s : State) : Host.Outcome State Fault Refusal :=
  .next (aluR .sbc .d 1 s)

/-- `SBC A,E` (R155). -/
def execSbcAE (s : State) : Host.Outcome State Fault Refusal :=
  .next (aluR .sbc .e 1 s)

/-- `SBC A,H` (R155). -/
def execSbcAH (s : State) : Host.Outcome State Fault Refusal :=
  .next (aluR .sbc .h 1 s)

/-- `SBC A,L` (R155). -/
def execSbcAL (s : State) : Host.Outcome State Fault Refusal :=
  .next (aluR .sbc .l 1 s)

/-- `SBC A,(HL)` (R155). -/
def execSbcAAtHl (s : State) : Host.Outcome State Fault Refusal :=
  .next (aluR .sbc .hlMem 2 s)

/-- `SBC A,A` (R155). -/
def execSbcAA (s : State) : Host.Outcome State Fault Refusal :=
  .next (aluR .sbc .a 1 s)

/-- `AND A,B` (R156). -/
def execAndAB (s : State) : Host.Outcome State Fault Refusal :=
  .next (aluR .and .b 1 s)

/-- `AND A,C` (R156). -/
def execAndAC (s : State) : Host.Outcome State Fault Refusal :=
  .next (aluR .and .c 1 s)

/-- `AND A,D` (R156). -/
def execAndAD (s : State) : Host.Outcome State Fault Refusal :=
  .next (aluR .and .d 1 s)

/-- `AND A,E` (R156). -/
def execAndAE (s : State) : Host.Outcome State Fault Refusal :=
  .next (aluR .and .e 1 s)

/-- `AND A,H` (R156). -/
def execAndAH (s : State) : Host.Outcome State Fault Refusal :=
  .next (aluR .and .h 1 s)

/-- `AND A,L` (R156). -/
def execAndAL (s : State) : Host.Outcome State Fault Refusal :=
  .next (aluR .and .l 1 s)

/-- `AND A,(HL)` (R156). -/
def execAndAAtHl (s : State) : Host.Outcome State Fault Refusal :=
  .next (aluR .and .hlMem 2 s)

/-- `AND A,A` (R156). -/
def execAndAA (s : State) : Host.Outcome State Fault Refusal :=
  .next (aluR .and .a 1 s)

/-- `XOR A,B` (R157). -/
def execXorAB (s : State) : Host.Outcome State Fault Refusal :=
  .next (aluR .xor .b 1 s)

/-- `XOR A,C` (R157). -/
def execXorAC (s : State) : Host.Outcome State Fault Refusal :=
  .next (aluR .xor .c 1 s)

/-- `XOR A,D` (R157). -/
def execXorAD (s : State) : Host.Outcome State Fault Refusal :=
  .next (aluR .xor .d 1 s)

/-- `XOR A,E` (R157). -/
def execXorAE (s : State) : Host.Outcome State Fault Refusal :=
  .next (aluR .xor .e 1 s)

/-- `XOR A,H` (R157). -/
def execXorAH (s : State) : Host.Outcome State Fault Refusal :=
  .next (aluR .xor .h 1 s)

/-- `XOR A,L` (R157). -/
def execXorAL (s : State) : Host.Outcome State Fault Refusal :=
  .next (aluR .xor .l 1 s)

/-- `XOR A,(HL)` (R157). -/
def execXorAAtHl (s : State) : Host.Outcome State Fault Refusal :=
  .next (aluR .xor .hlMem 2 s)

/-- `XOR A,A` (R157). -/
def execXorAA (s : State) : Host.Outcome State Fault Refusal :=
  .next (aluR .xor .a 1 s)

/-- `OR A,B` (R158). -/
def execOrAB (s : State) : Host.Outcome State Fault Refusal :=
  .next (aluR .or .b 1 s)

/-- `OR A,C` (R158). -/
def execOrAC (s : State) : Host.Outcome State Fault Refusal :=
  .next (aluR .or .c 1 s)

/-- `OR A,D` (R158). -/
def execOrAD (s : State) : Host.Outcome State Fault Refusal :=
  .next (aluR .or .d 1 s)

/-- `OR A,E` (R158). -/
def execOrAE (s : State) : Host.Outcome State Fault Refusal :=
  .next (aluR .or .e 1 s)

/-- `OR A,H` (R158). -/
def execOrAH (s : State) : Host.Outcome State Fault Refusal :=
  .next (aluR .or .h 1 s)

/-- `OR A,L` (R158). -/
def execOrAL (s : State) : Host.Outcome State Fault Refusal :=
  .next (aluR .or .l 1 s)

/-- `OR A,(HL)` (R158). -/
def execOrAAtHl (s : State) : Host.Outcome State Fault Refusal :=
  .next (aluR .or .hlMem 2 s)

/-- `OR A,A` (R158). -/
def execOrAA (s : State) : Host.Outcome State Fault Refusal :=
  .next (aluR .or .a 1 s)

/-- `CP A,B` (R159). -/
def execCpAB (s : State) : Host.Outcome State Fault Refusal :=
  .next (aluR .cp .b 1 s)

/-- `CP A,C` (R159). -/
def execCpAC (s : State) : Host.Outcome State Fault Refusal :=
  .next (aluR .cp .c 1 s)

/-- `CP A,D` (R159). -/
def execCpAD (s : State) : Host.Outcome State Fault Refusal :=
  .next (aluR .cp .d 1 s)

/-- `CP A,E` (R159). -/
def execCpAE (s : State) : Host.Outcome State Fault Refusal :=
  .next (aluR .cp .e 1 s)

/-- `CP A,H` (R159). -/
def execCpAH (s : State) : Host.Outcome State Fault Refusal :=
  .next (aluR .cp .h 1 s)

/-- `CP A,L` (R159). -/
def execCpAL (s : State) : Host.Outcome State Fault Refusal :=
  .next (aluR .cp .l 1 s)

/-- `CP A,(HL)` (R159). -/
def execCpAAtHl (s : State) : Host.Outcome State Fault Refusal :=
  .next (aluR .cp .hlMem 2 s)

/-- `CP A,A` (R159). -/
def execCpAA (s : State) : Host.Outcome State Fault Refusal :=
  .next (aluR .cp .a 1 s)

end Sys2Proof.Machine
end

