-- ==== Sys2Proof/Machine/Control.lean ====
section
/-! DEFINITION. Jumps, calls, returns and restarts (44_control.md R230 to R242). A conditional instruction fetches all of
its bytes whether or not it is taken, and its condition is evaluated on F as it was before. -/

namespace Sys2Proof.Machine

open Sys2Proof

/-- `JP nn` (R230). -/
def jp (nn : Word) (s : State) : State := (s.fetch3.jump nn).tick 4

/-- `JP cc,nn` (R231). -/
def jpCc (cc : Cc) (nn : Word) (s : State) : State :=
  if s.cond cc then (s.fetch3.jump nn).tick 4 else s.fetch3.tick 3

/-- `JP HL` (R232). -/
def jpHl (s : State) : State := (s.fetch1.jump s.fetch1.hl).tick 1

/-- `JR e`: relative to the address after the instruction (R233). -/
def jr (e : Byte) (s : State) : State := (s.fetch2.jump (s.fetch2.pc + sext16 e)).tick 3

/-- `JR cc,e` (R234). -/
def jrCc (cc : Cc) (e : Byte) (s : State) : State :=
  if s.cond cc then (s.fetch2.jump (s.fetch2.pc + sext16 e)).tick 3 else s.fetch2.tick 2

/-- `CALL nn`: the address after the instruction is pushed (R235). -/
def call (nn : Word) (s : State) : State := ((s.fetch3.push16 s.fetch3.pc).jump nn).tick 6

/-- `CALL cc,nn` (R236). -/
def callCc (cc : Cc) (nn : Word) (s : State) : State :=
  if s.cond cc then ((s.fetch3.push16 s.fetch3.pc).jump nn).tick 6 else s.fetch3.tick 3

/-- `RET` (R237). -/
def ret (s : State) : State := s.fetch1.returnPop.tick 4

/-- `RET cc` (R238). -/
def retCc (cc : Cc) (s : State) : State :=
  if s.cond cc then s.fetch1.returnPop.tick 5 else s.fetch1.tick 2

/-- `RETI`: IME is set at once, IME_pending is unchanged (R239). -/
def reti (s : State) : State := s.fetch1.returnFromInterrupt.tick 4

/-- `RST t`: the address after the instruction is pushed (R240). -/
def rst (t : Word) (s : State) : State := ((s.fetch1.push16 s.fetch1.pc).jump t).tick 4

/-- `JR e` (R233). -/
def execJrOff (e : Byte) (s : State) : Host.Outcome State Fault Refusal :=
  .next (jr e s)

/-- `JR NZ,e` (R234). -/
def execJrNzOff (e : Byte) (s : State) : Host.Outcome State Fault Refusal :=
  .next (jrCc .nz e s)

/-- `JR Z,e` (R234). -/
def execJrZOff (e : Byte) (s : State) : Host.Outcome State Fault Refusal :=
  .next (jrCc .z e s)

/-- `JR NC,e` (R234). -/
def execJrNcOff (e : Byte) (s : State) : Host.Outcome State Fault Refusal :=
  .next (jrCc .nc e s)

/-- `JR C,e` (R234). -/
def execJrCOff (e : Byte) (s : State) : Host.Outcome State Fault Refusal :=
  .next (jrCc .c e s)

/-- `JP NZ,nn` (R231). -/
def execJpNzImm16 (nn : Word) (s : State) : Host.Outcome State Fault Refusal :=
  .next (jpCc .nz nn s)

/-- `JP nn` (R230). -/
def execJpImm16 (nn : Word) (s : State) : Host.Outcome State Fault Refusal :=
  .next (jp nn s)

/-- `CALL NZ,nn` (R236). -/
def execCallNzImm16 (nn : Word) (s : State) : Host.Outcome State Fault Refusal :=
  .next (callCc .nz nn s)

/-- `JP Z,nn` (R231). -/
def execJpZImm16 (nn : Word) (s : State) : Host.Outcome State Fault Refusal :=
  .next (jpCc .z nn s)

/-- `CALL Z,nn` (R236). -/
def execCallZImm16 (nn : Word) (s : State) : Host.Outcome State Fault Refusal :=
  .next (callCc .z nn s)

/-- `CALL nn` (R235). -/
def execCallImm16 (nn : Word) (s : State) : Host.Outcome State Fault Refusal :=
  .next (call nn s)

/-- `JP NC,nn` (R231). -/
def execJpNcImm16 (nn : Word) (s : State) : Host.Outcome State Fault Refusal :=
  .next (jpCc .nc nn s)

/-- `CALL NC,nn` (R236). -/
def execCallNcImm16 (nn : Word) (s : State) : Host.Outcome State Fault Refusal :=
  .next (callCc .nc nn s)

/-- `JP C,nn` (R231). -/
def execJpCImm16 (nn : Word) (s : State) : Host.Outcome State Fault Refusal :=
  .next (jpCc .c nn s)

/-- `CALL C,nn` (R236). -/
def execCallCImm16 (nn : Word) (s : State) : Host.Outcome State Fault Refusal :=
  .next (callCc .c nn s)

/-- `RET NZ` (R238). -/
def execRetNz (s : State) : Host.Outcome State Fault Refusal :=
  .next (retCc .nz s)

/-- `RST 0x00` (R240). -/
def execRst00 (s : State) : Host.Outcome State Fault Refusal :=
  .next (rst 0x00 s)

/-- `RET Z` (R238). -/
def execRetZ (s : State) : Host.Outcome State Fault Refusal :=
  .next (retCc .z s)

/-- `RET` (R237). -/
def execRet (s : State) : Host.Outcome State Fault Refusal :=
  .next (ret s)

/-- `RST 0x08` (R240). -/
def execRst08 (s : State) : Host.Outcome State Fault Refusal :=
  .next (rst 0x08 s)

/-- `RET NC` (R238). -/
def execRetNc (s : State) : Host.Outcome State Fault Refusal :=
  .next (retCc .nc s)

/-- `RST 0x10` (R240). -/
def execRst10 (s : State) : Host.Outcome State Fault Refusal :=
  .next (rst 0x10 s)

/-- `RET C` (R238). -/
def execRetC (s : State) : Host.Outcome State Fault Refusal :=
  .next (retCc .c s)

/-- `RETI` (R239). -/
def execReti (s : State) : Host.Outcome State Fault Refusal :=
  .next (reti s)

/-- `RST 0x18` (R240). -/
def execRst18 (s : State) : Host.Outcome State Fault Refusal :=
  .next (rst 0x18 s)

/-- `RST 0x20` (R240). -/
def execRst20 (s : State) : Host.Outcome State Fault Refusal :=
  .next (rst 0x20 s)

/-- `JP HL` (R232). -/
def execJpHl (s : State) : Host.Outcome State Fault Refusal :=
  .next (jpHl s)

/-- `RST 0x28` (R240). -/
def execRst28 (s : State) : Host.Outcome State Fault Refusal :=
  .next (rst 0x28 s)

/-- `RST 0x30` (R240). -/
def execRst30 (s : State) : Host.Outcome State Fault Refusal :=
  .next (rst 0x30 s)

/-- `RST 0x38` (R240). -/
def execRst38 (s : State) : Host.Outcome State Fault Refusal :=
  .next (rst 0x38 s)

end Sys2Proof.Machine
end

