-- ==== Sys2Proof/Machine/Load16.lean ====
section
/-! DEFINITION. The 16-bit loads and the stack (41_load16.md R130 to R135). -/

namespace Sys2Proof.Machine

open Sys2Proof

/-- `LD rp,nn` (R130). -/
def ldRpImm (p : Rp) (nn : Word) (s : State) : State := (s.fetch3.setRp p nn).tick 3

/-- `LD (nn),SP`: two writes, low byte at nn (R131). -/
def ldNnSp (nn : Word) (s : State) : State := (s.fetch3.busWrite16 nn s.sp).tick 5

/-- `LD SP,HL` (R132). -/
def ldSpHl (s : State) : State := ({ s.fetch1 with sp := s.fetch1.hl } : State).tick 2

/-- `LD HL,SP+e`: Z and N clear, H and C from the unsigned addition to the low byte of SP (R133). -/
def ldHlSpOff (e : Byte) (s : State) : State :=
  let s1 := s.fetch2
  ((s1.setHl (s1.sp + sext16 e)).setFlags false false (spOffH s1.sp e) (spOffC s1.sp e)).tick 3

/-- `PUSH rp2` (R134). -/
def pushPair (p : Rp2) (s : State) : State :=
  let s1 := s.fetch1
  (s1.push16 (s1.getRp2 p)).tick 4

/-- `POP rp2`; for AF the popped low byte is stored to F through the mask (R135). -/
def popPair (p : Rp2) (s : State) : State :=
  let s1 := s.fetch1
  (s1.pop16.setRp2 p s1.popped).tick 3

/-- `LD BC,nn` (R130). -/
def execLdBcImm16 (nn : Word) (s : State) : Host.Outcome State Fault Refusal :=
  .next (ldRpImm .bc nn s)

/-- `LD (nn),SP` (R131). -/
def execLdAtImm16Sp (nn : Word) (s : State) : Host.Outcome State Fault Refusal :=
  .next (ldNnSp nn s)

/-- `LD DE,nn` (R130). -/
def execLdDeImm16 (nn : Word) (s : State) : Host.Outcome State Fault Refusal :=
  .next (ldRpImm .de nn s)

/-- `LD HL,nn` (R130). -/
def execLdHlImm16 (nn : Word) (s : State) : Host.Outcome State Fault Refusal :=
  .next (ldRpImm .hl nn s)

/-- `LD SP,nn` (R130). -/
def execLdSpImm16 (nn : Word) (s : State) : Host.Outcome State Fault Refusal :=
  .next (ldRpImm .sp nn s)

/-- `LD HL,SP+e` (R133). -/
def execLdHlSpOff (e : Byte) (s : State) : Host.Outcome State Fault Refusal :=
  .next (ldHlSpOff e s)

/-- `POP BC` (R135). -/
def execPopBc (s : State) : Host.Outcome State Fault Refusal :=
  .next (popPair .bc s)

/-- `PUSH BC` (R134). -/
def execPushBc (s : State) : Host.Outcome State Fault Refusal :=
  .next (pushPair .bc s)

/-- `POP DE` (R135). -/
def execPopDe (s : State) : Host.Outcome State Fault Refusal :=
  .next (popPair .de s)

/-- `PUSH DE` (R134). -/
def execPushDe (s : State) : Host.Outcome State Fault Refusal :=
  .next (pushPair .de s)

/-- `POP HL` (R135). -/
def execPopHl (s : State) : Host.Outcome State Fault Refusal :=
  .next (popPair .hl s)

/-- `PUSH HL` (R134). -/
def execPushHl (s : State) : Host.Outcome State Fault Refusal :=
  .next (pushPair .hl s)

/-- `POP AF` (R135). -/
def execPopAf (s : State) : Host.Outcome State Fault Refusal :=
  .next (popPair .af s)

/-- `PUSH AF` (R134). -/
def execPushAf (s : State) : Host.Outcome State Fault Refusal :=
  .next (pushPair .af s)

/-- `LD SP,HL` (R132). -/
def execLdSpHl (s : State) : Host.Outcome State Fault Refusal :=
  .next (ldSpHl s)

end Sys2Proof.Machine
end

