-- ==== Sys2Proof/Machine/Load8.lean ====
section
/-! DEFINITION. The 8-bit loads (40_load8.md R100 to R118): the shared operations, then one meaning for each row. A
meaning starts with PC at the instruction's opcode byte and fetches the instruction's own bytes. -/

namespace Sys2Proof.Machine

open Sys2Proof

/-- `LD r,r'`, `LD r,(HL)` and `LD (HL),r`: the source operand is read, then the destination is written, in `n`
M-cycles (R100 to R102). -/
def ldR (dst src : R8) (n : Nat) (s : State) : State :=
  let s1 := s.fetch1
  ((s1.touchR src).setR dst (s1.getR src)).tick n

/-- `LD r,n` and `LD (HL),n` (R103, R104). -/
def ldRImm (dst : R8) (v : Byte) (n : Nat) (s : State) : State := (s.fetch2.setR dst v).tick n

/-- A is loaded from the byte at an address, in `n` M-cycles, after the instruction's fetch (R105, R106, R114,
R116, R118). -/
def loadA (s : State) (addr : Word) (n : Nat) : State :=
  ({ s.noteRead addr with a := s.peek addr } : State).tick n

/-- A is stored to the byte at an address, in `n` M-cycles, after the instruction's fetch (R107, R108, R113,
R115, R117). -/
def storeA (s : State) (addr : Word) (n : Nat) : State := (s.busWrite addr s.a).tick n

/-- `LD A,(HL+)` and `LD A,(HL-)`: A is loaded from the byte at HL, then HL moves by `delta` (R109, R110). -/
def loadAHl (delta : Word) (s : State) : State :=
  let s1 := s.fetch1
  (({ s1.noteRead s1.hl with a := s1.peek s1.hl } : State).setHl (s1.hl + delta)).tick 2

/-- `LD (HL+),A` and `LD (HL-),A`: A is stored to the byte at HL, then HL moves by `delta` (R111, R112). -/
def storeAHl (delta : Word) (s : State) : State :=
  let s1 := s.fetch1
  ((s1.busWrite s1.hl s1.a).setHl (s1.hl + delta)).tick 2

/-- `LD B,n` (R103). -/
def execLdBImm (n : Byte) (s : State) : Host.Outcome State Fault Refusal :=
  .next (ldRImm .b n 2 s)

/-- `LD C,n` (R103). -/
def execLdCImm (n : Byte) (s : State) : Host.Outcome State Fault Refusal :=
  .next (ldRImm .c n 2 s)

/-- `LD D,n` (R103). -/
def execLdDImm (n : Byte) (s : State) : Host.Outcome State Fault Refusal :=
  .next (ldRImm .d n 2 s)

/-- `LD E,n` (R103). -/
def execLdEImm (n : Byte) (s : State) : Host.Outcome State Fault Refusal :=
  .next (ldRImm .e n 2 s)

/-- `LD H,n` (R103). -/
def execLdHImm (n : Byte) (s : State) : Host.Outcome State Fault Refusal :=
  .next (ldRImm .h n 2 s)

/-- `LD L,n` (R103). -/
def execLdLImm (n : Byte) (s : State) : Host.Outcome State Fault Refusal :=
  .next (ldRImm .l n 2 s)

/-- `LD (HL),n` (R104). -/
def execLdAtHlImm (n : Byte) (s : State) : Host.Outcome State Fault Refusal :=
  .next (ldRImm .hlMem n 3 s)

/-- `LD A,n` (R103). -/
def execLdAImm (n : Byte) (s : State) : Host.Outcome State Fault Refusal :=
  .next (ldRImm .a n 2 s)

/-- `LDH (n),A` (R113). -/
def execLdhAtImmA (n : Byte) (s : State) : Host.Outcome State Fault Refusal :=
  .next (storeA s.fetch2 (ioAddr n) 3)

/-- `LD (nn),A` (R117). -/
def execLdAtImm16A (nn : Word) (s : State) : Host.Outcome State Fault Refusal :=
  .next (storeA s.fetch3 nn 4)

/-- `LDH A,(n)` (R114). -/
def execLdhAAtImm (n : Byte) (s : State) : Host.Outcome State Fault Refusal :=
  .next (loadA s.fetch2 (ioAddr n) 3)

/-- `LD A,(nn)` (R118). -/
def execLdAAtImm16 (nn : Word) (s : State) : Host.Outcome State Fault Refusal :=
  .next (loadA s.fetch3 nn 4)

/-- `LD (BC),A` (R107). -/
def execLdAtBcA (s : State) : Host.Outcome State Fault Refusal :=
  .next (storeA s.fetch1 s.fetch1.bc 2)

/-- `LD A,(BC)` (R105). -/
def execLdAAtBc (s : State) : Host.Outcome State Fault Refusal :=
  .next (loadA s.fetch1 s.fetch1.bc 2)

/-- `LD (DE),A` (R108). -/
def execLdAtDeA (s : State) : Host.Outcome State Fault Refusal :=
  .next (storeA s.fetch1 s.fetch1.de 2)

/-- `LD A,(DE)` (R106). -/
def execLdAAtDe (s : State) : Host.Outcome State Fault Refusal :=
  .next (loadA s.fetch1 s.fetch1.de 2)

/-- `LD (HL+),A` (R111). -/
def execLdAtHlIncA (s : State) : Host.Outcome State Fault Refusal :=
  .next (storeAHl 1 s)

/-- `LD A,(HL+)` (R109). -/
def execLdAAtHlInc (s : State) : Host.Outcome State Fault Refusal :=
  .next (loadAHl 1 s)

/-- `LD (HL-),A` (R112). -/
def execLdAtHlDecA (s : State) : Host.Outcome State Fault Refusal :=
  .next (storeAHl (-1) s)

/-- `LD A,(HL-)` (R110). -/
def execLdAAtHlDec (s : State) : Host.Outcome State Fault Refusal :=
  .next (loadAHl (-1) s)

/-- `LD B,B` (R100). -/
def execLdBB (s : State) : Host.Outcome State Fault Refusal :=
  .next (ldR .b .b 1 s)

/-- `LD B,C` (R100). -/
def execLdBC (s : State) : Host.Outcome State Fault Refusal :=
  .next (ldR .b .c 1 s)

/-- `LD B,D` (R100). -/
def execLdBD (s : State) : Host.Outcome State Fault Refusal :=
  .next (ldR .b .d 1 s)

/-- `LD B,E` (R100). -/
def execLdBE (s : State) : Host.Outcome State Fault Refusal :=
  .next (ldR .b .e 1 s)

/-- `LD B,H` (R100). -/
def execLdBH (s : State) : Host.Outcome State Fault Refusal :=
  .next (ldR .b .h 1 s)

/-- `LD B,L` (R100). -/
def execLdBL (s : State) : Host.Outcome State Fault Refusal :=
  .next (ldR .b .l 1 s)

/-- `LD B,(HL)` (R101). -/
def execLdBAtHl (s : State) : Host.Outcome State Fault Refusal :=
  .next (ldR .b .hlMem 2 s)

/-- `LD B,A` (R100). -/
def execLdBA (s : State) : Host.Outcome State Fault Refusal :=
  .next (ldR .b .a 1 s)

/-- `LD C,B` (R100). -/
def execLdCB (s : State) : Host.Outcome State Fault Refusal :=
  .next (ldR .c .b 1 s)

/-- `LD C,C` (R100). -/
def execLdCC (s : State) : Host.Outcome State Fault Refusal :=
  .next (ldR .c .c 1 s)

/-- `LD C,D` (R100). -/
def execLdCD (s : State) : Host.Outcome State Fault Refusal :=
  .next (ldR .c .d 1 s)

/-- `LD C,E` (R100). -/
def execLdCE (s : State) : Host.Outcome State Fault Refusal :=
  .next (ldR .c .e 1 s)

/-- `LD C,H` (R100). -/
def execLdCH (s : State) : Host.Outcome State Fault Refusal :=
  .next (ldR .c .h 1 s)

/-- `LD C,L` (R100). -/
def execLdCL (s : State) : Host.Outcome State Fault Refusal :=
  .next (ldR .c .l 1 s)

/-- `LD C,(HL)` (R101). -/
def execLdCAtHl (s : State) : Host.Outcome State Fault Refusal :=
  .next (ldR .c .hlMem 2 s)

/-- `LD C,A` (R100). -/
def execLdCA (s : State) : Host.Outcome State Fault Refusal :=
  .next (ldR .c .a 1 s)

/-- `LD D,B` (R100). -/
def execLdDB (s : State) : Host.Outcome State Fault Refusal :=
  .next (ldR .d .b 1 s)

/-- `LD D,C` (R100). -/
def execLdDC (s : State) : Host.Outcome State Fault Refusal :=
  .next (ldR .d .c 1 s)

/-- `LD D,D` (R100). -/
def execLdDD (s : State) : Host.Outcome State Fault Refusal :=
  .next (ldR .d .d 1 s)

/-- `LD D,E` (R100). -/
def execLdDE (s : State) : Host.Outcome State Fault Refusal :=
  .next (ldR .d .e 1 s)

/-- `LD D,H` (R100). -/
def execLdDH (s : State) : Host.Outcome State Fault Refusal :=
  .next (ldR .d .h 1 s)

/-- `LD D,L` (R100). -/
def execLdDL (s : State) : Host.Outcome State Fault Refusal :=
  .next (ldR .d .l 1 s)

/-- `LD D,(HL)` (R101). -/
def execLdDAtHl (s : State) : Host.Outcome State Fault Refusal :=
  .next (ldR .d .hlMem 2 s)

/-- `LD D,A` (R100). -/
def execLdDA (s : State) : Host.Outcome State Fault Refusal :=
  .next (ldR .d .a 1 s)

/-- `LD E,B` (R100). -/
def execLdEB (s : State) : Host.Outcome State Fault Refusal :=
  .next (ldR .e .b 1 s)

/-- `LD E,C` (R100). -/
def execLdEC (s : State) : Host.Outcome State Fault Refusal :=
  .next (ldR .e .c 1 s)

/-- `LD E,D` (R100). -/
def execLdED (s : State) : Host.Outcome State Fault Refusal :=
  .next (ldR .e .d 1 s)

/-- `LD E,E` (R100). -/
def execLdEE (s : State) : Host.Outcome State Fault Refusal :=
  .next (ldR .e .e 1 s)

/-- `LD E,H` (R100). -/
def execLdEH (s : State) : Host.Outcome State Fault Refusal :=
  .next (ldR .e .h 1 s)

/-- `LD E,L` (R100). -/
def execLdEL (s : State) : Host.Outcome State Fault Refusal :=
  .next (ldR .e .l 1 s)

/-- `LD E,(HL)` (R101). -/
def execLdEAtHl (s : State) : Host.Outcome State Fault Refusal :=
  .next (ldR .e .hlMem 2 s)

/-- `LD E,A` (R100). -/
def execLdEA (s : State) : Host.Outcome State Fault Refusal :=
  .next (ldR .e .a 1 s)

/-- `LD H,B` (R100). -/
def execLdHB (s : State) : Host.Outcome State Fault Refusal :=
  .next (ldR .h .b 1 s)

/-- `LD H,C` (R100). -/
def execLdHC (s : State) : Host.Outcome State Fault Refusal :=
  .next (ldR .h .c 1 s)

/-- `LD H,D` (R100). -/
def execLdHD (s : State) : Host.Outcome State Fault Refusal :=
  .next (ldR .h .d 1 s)

/-- `LD H,E` (R100). -/
def execLdHE (s : State) : Host.Outcome State Fault Refusal :=
  .next (ldR .h .e 1 s)

/-- `LD H,H` (R100). -/
def execLdHH (s : State) : Host.Outcome State Fault Refusal :=
  .next (ldR .h .h 1 s)

/-- `LD H,L` (R100). -/
def execLdHL (s : State) : Host.Outcome State Fault Refusal :=
  .next (ldR .h .l 1 s)

/-- `LD H,(HL)` (R101). -/
def execLdHAtHl (s : State) : Host.Outcome State Fault Refusal :=
  .next (ldR .h .hlMem 2 s)

/-- `LD H,A` (R100). -/
def execLdHA (s : State) : Host.Outcome State Fault Refusal :=
  .next (ldR .h .a 1 s)

/-- `LD L,B` (R100). -/
def execLdLB (s : State) : Host.Outcome State Fault Refusal :=
  .next (ldR .l .b 1 s)

/-- `LD L,C` (R100). -/
def execLdLC (s : State) : Host.Outcome State Fault Refusal :=
  .next (ldR .l .c 1 s)

/-- `LD L,D` (R100). -/
def execLdLD (s : State) : Host.Outcome State Fault Refusal :=
  .next (ldR .l .d 1 s)

/-- `LD L,E` (R100). -/
def execLdLE (s : State) : Host.Outcome State Fault Refusal :=
  .next (ldR .l .e 1 s)

/-- `LD L,H` (R100). -/
def execLdLH (s : State) : Host.Outcome State Fault Refusal :=
  .next (ldR .l .h 1 s)

/-- `LD L,L` (R100). -/
def execLdLL (s : State) : Host.Outcome State Fault Refusal :=
  .next (ldR .l .l 1 s)

/-- `LD L,(HL)` (R101). -/
def execLdLAtHl (s : State) : Host.Outcome State Fault Refusal :=
  .next (ldR .l .hlMem 2 s)

/-- `LD L,A` (R100). -/
def execLdLA (s : State) : Host.Outcome State Fault Refusal :=
  .next (ldR .l .a 1 s)

/-- `LD (HL),B` (R102). -/
def execLdAtHlB (s : State) : Host.Outcome State Fault Refusal :=
  .next (ldR .hlMem .b 2 s)

/-- `LD (HL),C` (R102). -/
def execLdAtHlC (s : State) : Host.Outcome State Fault Refusal :=
  .next (ldR .hlMem .c 2 s)

/-- `LD (HL),D` (R102). -/
def execLdAtHlD (s : State) : Host.Outcome State Fault Refusal :=
  .next (ldR .hlMem .d 2 s)

/-- `LD (HL),E` (R102). -/
def execLdAtHlE (s : State) : Host.Outcome State Fault Refusal :=
  .next (ldR .hlMem .e 2 s)

/-- `LD (HL),H` (R102). -/
def execLdAtHlH (s : State) : Host.Outcome State Fault Refusal :=
  .next (ldR .hlMem .h 2 s)

/-- `LD (HL),L` (R102). -/
def execLdAtHlL (s : State) : Host.Outcome State Fault Refusal :=
  .next (ldR .hlMem .l 2 s)

/-- `LD (HL),A` (R102). -/
def execLdAtHlA (s : State) : Host.Outcome State Fault Refusal :=
  .next (ldR .hlMem .a 2 s)

/-- `LD A,B` (R100). -/
def execLdAB (s : State) : Host.Outcome State Fault Refusal :=
  .next (ldR .a .b 1 s)

/-- `LD A,C` (R100). -/
def execLdAC (s : State) : Host.Outcome State Fault Refusal :=
  .next (ldR .a .c 1 s)

/-- `LD A,D` (R100). -/
def execLdAD (s : State) : Host.Outcome State Fault Refusal :=
  .next (ldR .a .d 1 s)

/-- `LD A,E` (R100). -/
def execLdAE (s : State) : Host.Outcome State Fault Refusal :=
  .next (ldR .a .e 1 s)

/-- `LD A,H` (R100). -/
def execLdAH (s : State) : Host.Outcome State Fault Refusal :=
  .next (ldR .a .h 1 s)

/-- `LD A,L` (R100). -/
def execLdAL (s : State) : Host.Outcome State Fault Refusal :=
  .next (ldR .a .l 1 s)

/-- `LD A,(HL)` (R101). -/
def execLdAAtHl (s : State) : Host.Outcome State Fault Refusal :=
  .next (ldR .a .hlMem 2 s)

/-- `LD A,A` (R100). -/
def execLdAA (s : State) : Host.Outcome State Fault Refusal :=
  .next (ldR .a .a 1 s)

/-- `LD (C),A` (R115). -/
def execLdAtCA (s : State) : Host.Outcome State Fault Refusal :=
  .next (storeA s.fetch1 (ioAddr s.fetch1.c) 2)

/-- `LD A,(C)` (R116). -/
def execLdAAtC (s : State) : Host.Outcome State Fault Refusal :=
  .next (loadA s.fetch1 (ioAddr s.fetch1.c) 2)

end Sys2Proof.Machine
end

