-- ==== Sys2Proof/Machine/RotateBit.lean ====
section
/-! DEFINITION. Rotates, shifts and bit operations (43_rotate_bit.md R200 to R215). -/

namespace Sys2Proof.Machine

open Sys2Proof

/-- The accumulator rotates: the operation of the CB form of the same name on A; Z is always cleared (R200 to
R203). -/
def accRot (op : RotOp) (s : State) : State :=
  let s1 := s.fetch1
  let r := rotResult op s1.a s1.flagC
  (({ s1 with a := r.1 } : State).setFlags false false false r.2).tick 1

/-- The M-cycles of a CB form that writes its operand back: 2, or 4 for (HL) (R204). -/
def cbCycles (r : R8) : Nat := if r = .hlMem then 4 else 2

/-- The M-cycles of BIT: 2, or 3 for (HL), which is only read (R204). -/
def cbBitCycles (r : R8) : Nat := if r = .hlMem then 3 else 2

/-- A CB rotate or shift: the operand is read, the result is written back even if it is the same, and Z is computed
from the result (R204 to R212). -/
def cbRot (op : RotOp) (r : R8) (s : State) : State :=
  let s1 := s.fetch2
  let res := rotResult op (s1.getR r) s1.flagC
  (((s1.touchR r).setR r res.1).setFlags (res.1 == 0) false false res.2).tick (cbCycles r)

/-- `BIT b,r`: the operand is only read, C is kept (R213). -/
def cbBit (b : BitVec 3) (r : R8) (s : State) : State :=
  let s1 := s.fetch2
  ((s1.touchR r).setFlags (!testBit b (s1.getR r)) false true s1.flagC).tick (cbBitCycles r)

/-- `RES b,r`: no flag changes (R214). -/
def cbRes (b : BitVec 3) (r : R8) (s : State) : State :=
  let s1 := s.fetch2
  ((s1.touchR r).setR r (resetBit b (s1.getR r))).tick (cbCycles r)

/-- `SET b,r`: no flag changes (R215). -/
def cbSet (b : BitVec 3) (r : R8) (s : State) : State :=
  let s1 := s.fetch2
  ((s1.touchR r).setR r (setBit b (s1.getR r))).tick (cbCycles r)

/-- `RLC r` (R205). -/
def execRlc (r : R8) (s : State) : Host.Outcome State Fault Refusal :=
  .next (cbRot .rlc r s)

/-- `RRC r` (R206). -/
def execRrc (r : R8) (s : State) : Host.Outcome State Fault Refusal :=
  .next (cbRot .rrc r s)

/-- `RL r` (R207). -/
def execRl (r : R8) (s : State) : Host.Outcome State Fault Refusal :=
  .next (cbRot .rl r s)

/-- `RR r` (R208). -/
def execRr (r : R8) (s : State) : Host.Outcome State Fault Refusal :=
  .next (cbRot .rr r s)

/-- `SLA r` (R209). -/
def execSla (r : R8) (s : State) : Host.Outcome State Fault Refusal :=
  .next (cbRot .sla r s)

/-- `SRA r` (R210). -/
def execSra (r : R8) (s : State) : Host.Outcome State Fault Refusal :=
  .next (cbRot .sra r s)

/-- `SWAP r` (R211). -/
def execSwap (r : R8) (s : State) : Host.Outcome State Fault Refusal :=
  .next (cbRot .swap r s)

/-- `SRL r` (R212). -/
def execSrl (r : R8) (s : State) : Host.Outcome State Fault Refusal :=
  .next (cbRot .srl r s)

/-- `BIT b,r` (R213). -/
def execBit (b : BitVec 3) (r : R8) (s : State) : Host.Outcome State Fault Refusal :=
  .next (cbBit b r s)

/-- `RES b,r` (R214). -/
def execRes (b : BitVec 3) (r : R8) (s : State) : Host.Outcome State Fault Refusal :=
  .next (cbRes b r s)

/-- `SET b,r` (R215). -/
def execSet (b : BitVec 3) (r : R8) (s : State) : Host.Outcome State Fault Refusal :=
  .next (cbSet b r s)

/-- `RLCA` (R200). -/
def execRlca (s : State) : Host.Outcome State Fault Refusal :=
  .next (accRot .rlc s)

/-- `RRCA` (R201). -/
def execRrca (s : State) : Host.Outcome State Fault Refusal :=
  .next (accRot .rrc s)

/-- `RLA` (R202). -/
def execRla (s : State) : Host.Outcome State Fault Refusal :=
  .next (accRot .rl s)

/-- `RRA` (R203). -/
def execRra (s : State) : Host.Outcome State Fault Refusal :=
  .next (accRot .rr s)

end Sys2Proof.Machine
end

