-- ==== Sys2Proof/Machine/Misc.lean ====
section
/-! DEFINITION. Control of the core: NOP, DI, EI, HALT, STOP, the byte 0xCB and the undefined bytes (45_misc.md R260 to
R266). -/

namespace Sys2Proof.Machine

open Sys2Proof

/-- `NOP` (R260). -/
def nop (s : State) : State := s.fetch1.tick 1

/-- `DI`: IME and IME_pending are cleared at once (R261). -/
def di (s : State) : State := ({ s.fetch1 with ime := false, imePending := false } : State).tick 1

/-- `EI`: IME_pending is set; IME is not changed by this step (R262). -/
def ei (s : State) : State := ({ s.fetch1 with imePending := true } : State).tick 1

/-- `HALT`: it polls IE and IF itself and always sets halted; with IME = 0 and an interrupt pending it sets
halt_bug, and a set halt_bug stays set (R263). -/
def halt (s : State) : State :=
  let s1 := s.fetch1
  ({ s1.poll with halted := true, haltBug := s1.haltBug || (!s1.ime && s1.pending) } : State).tick 1

/-- `STOP`: one byte; it sets stopped, or halted without a poll, by `stop_policy` (R264). -/
def stop (s : State) : State :=
  match s.stopPolicy with
  | .stopState => ({ s.fetch1 with stopped := true } : State).tick 1
  | .asHalt => ({ s.fetch1 with halted := true } : State).tick 1

/-- An undefined byte (R266). Under Lock the step raises UnknownOpcode with the byte and the address it was fetched
from (`x[PC] - 1` after the fetch, or `x[PC]` under the HALT bug: PC before the fetch in both cases), and the core is
locked; under NopWithWarning the byte is skipped in 1 M-cycle. -/
def undefinedByte (op : Byte) (s : State) : Host.Outcome State Fault Refusal :=
  match s.unknownOpcodePolicy with
  | .lock => .fault (.unknownOpcode op s.pc (s.fetch1.lock op s.pc))
  | .nopWithWarning => .next (s.fetch1.tick 1)

/-- The instruction of the CB map that a second byte selects, by its fields (R265; 30_encoding.md R83). -/
def execCbMap (op2 : Byte) (s : State) : Host.Outcome State Fault Refusal :=
  let r := r8OfIndex (fieldZ op2)
  let b := BitVec.ofNat 3 (fieldY op2)
  match fieldX op2 with
  | 0 => .next (cbRot (rotOfIndex (fieldY op2)) r s)
  | 1 => .next (cbBit b r s)
  | 2 => .next (cbRes b r s)
  | _ => .next (cbSet b r s)

/-- `PREFIX CB` (R265). -/
def execPrefixCb (op2 : Byte) (s : State) : Host.Outcome State Fault Refusal :=
  execCbMap op2 s

/-- `NOP` (R260). -/
def execNop (s : State) : Host.Outcome State Fault Refusal :=
  .next (nop s)

/-- `STOP` (R264). -/
def execStop (s : State) : Host.Outcome State Fault Refusal :=
  .next (stop s)

/-- `HALT` (R263). -/
def execHalt (s : State) : Host.Outcome State Fault Refusal :=
  .next (halt s)

/-- `UNDEFINED 0xD3` (R266). -/
def execUndefinedD3 (s : State) : Host.Outcome State Fault Refusal :=
  undefinedByte 0xD3 s

/-- `UNDEFINED 0xDB` (R266). -/
def execUndefinedDB (s : State) : Host.Outcome State Fault Refusal :=
  undefinedByte 0xDB s

/-- `UNDEFINED 0xDD` (R266). -/
def execUndefinedDD (s : State) : Host.Outcome State Fault Refusal :=
  undefinedByte 0xDD s

/-- `UNDEFINED 0xE3` (R266). -/
def execUndefinedE3 (s : State) : Host.Outcome State Fault Refusal :=
  undefinedByte 0xE3 s

/-- `UNDEFINED 0xE4` (R266). -/
def execUndefinedE4 (s : State) : Host.Outcome State Fault Refusal :=
  undefinedByte 0xE4 s

/-- `UNDEFINED 0xEB` (R266). -/
def execUndefinedEB (s : State) : Host.Outcome State Fault Refusal :=
  undefinedByte 0xEB s

/-- `UNDEFINED 0xEC` (R266). -/
def execUndefinedEC (s : State) : Host.Outcome State Fault Refusal :=
  undefinedByte 0xEC s

/-- `UNDEFINED 0xED` (R266). -/
def execUndefinedED (s : State) : Host.Outcome State Fault Refusal :=
  undefinedByte 0xED s

/-- `DI` (R261). -/
def execDi (s : State) : Host.Outcome State Fault Refusal :=
  .next (di s)

/-- `UNDEFINED 0xF4` (R266). -/
def execUndefinedF4 (s : State) : Host.Outcome State Fault Refusal :=
  undefinedByte 0xF4 s

/-- `EI` (R262). -/
def execEi (s : State) : Host.Outcome State Fault Refusal :=
  .next (ei s)

/-- `UNDEFINED 0xFC` (R266). -/
def execUndefinedFC (s : State) : Host.Outcome State Fault Refusal :=
  undefinedByte 0xFC s

/-- `UNDEFINED 0xFD` (R266). -/
def execUndefinedFD (s : State) : Host.Outcome State Fault Refusal :=
  undefinedByte 0xFD s

end Sys2Proof.Machine
end

