-- ==== Sys2Proof/Machine/Stepper.lean ====
section
/-! DEFINITION. The stepper's own parts (60_exceptions.md R302 to R312): what a step does around the execution of an
instruction. Machine/Step.lean puts them in the order of R308. -/

namespace Sys2Proof.Machine

open Sys2Proof

/-- A step starts with no bus call made (the model's own field `trace`, log entry 5). -/
def State.beginStep (s : State) : State := { s with trace := [] }

/-- The fault of a locked core: no bus access, no state change (R312). -/
def lockedFault (s : State) : Fault := .unknownOpcode s.lockedOpcode s.lockedAddr s

/-- A stopped step: no bus access, one draw of `stop_wake`, which ends the stop if it is true; 1 M-cycle (R311). -/
def State.stoppedStep (s : State) : State :=
  ({ s with stopped := s.stopped && !Config.stopWake s.stopDraws, stopDraws := s.stopDraws + 1 } : State).tick 1

/-- An idle halted step, after its poll: 1 M-cycle and nothing else (R308 case 5, R310). -/
def State.idleStep (s : State) : State := s.poll.tick 1

/-- The state in which a step that is neither locked, stopped nor idle goes on: the poll has been made and halted is
clear (R308 cases 4 and 5, R310). DESIGN CHOICE (unsafe) where the step then faults on an undefined byte under Lock: halted
stays clear in the locked state, as case 5 and 10_state.md R30 have it, although R312 says that every field but halt_bug is
as before the step and the spec does not settle which holds. Log entry 13. -/
def State.awake (s : State) : State := { s.poll with halted := false }

/-- The instruction the step's fetch reads (R309, R88): the bytes that `FetchOpcode()` and then `Fetch8()` return, each from
the bus as the calls before it leave it. The calls themselves are made by the instruction's meaning, from this same state,
and only as many as the instruction has bytes. DEDUCED, log entry 11. -/
def State.fetchInstr (s : State) : Instr :=
  decodeInstr (s.peek s.pc) (s.fetch1.peek s.fetch1.pc) (s.fetch2.peek s.fetch2.pc)

/-- The instruction that a step which executes one runs: the one its fetch reads after its poll (60_exceptions.md R308). -/
def State.nextInstr (s : State) : Instr := s.beginStep.awake.fetchInstr

/-- The EI commit applies to a step that completes with Next, not to a fault (R307). -/
def commitOutcome (pend0 : Bool) : Host.Outcome State Fault Refusal → Host.Outcome State Fault Refusal
  | .next s => .next (s.commitEi pend0)
  | .fault r => .fault r
  | .refused r => .refused r

end Sys2Proof.Machine
end

