-- ==== Sys2Proof/Machine/HostOps.lean ====
section
/-! DEFINITION. What the host can do between two steps (60_exceptions.md R319): construct, reset, request an interrupt,
change bus bytes, read the accessors, save and restore the persisted record. -/

namespace Sys2Proof.Machine

open Sys2Proof

/-- `reset(profile)`: the core's fields take the row of 10_state.md R38; the bus is not touched (70 R351). -/
def State.resetTo (s : State) (p : ResetProfile) : State :=
  match p with
  | .cold =>
    { s with
      a := 0, f := 0, b := 0, c := 0, d := 0, e := 0, h := 0, l := 0, sp := 0x0000, pc := 0x0000
      ime := false, imePending := false, halted := false, stopped := false, haltBug := false
      locked := false, lockedOpcode := 0, lockedAddr := 0, mCycles := 0, trace := [] }
  | .postBoot =>
    { s with
      a := 0x01, f := 0xB0, b := 0x00, c := 0x13, d := 0x00, e := 0xD8, h := 0x01, l := 0x4D
      sp := 0xFFFE, pc := 0x0100
      ime := false, imePending := false, halted := false, stopped := false, haltBug := false
      locked := false, lockedOpcode := 0, lockedAddr := 0, mCycles := 0, trace := [] }

/-- `new(bus)`: a core in the Cold state on the given bus, with the given policies (70 R350, 00_scope.md R5). -/
def State.new (bus : Bus) (unknownOpcode : UnknownOpcodePolicy) (stop : StopPolicy) : State :=
  State.resetTo
    { State.reset with bus := bus, unknownOpcodePolicy := unknownOpcode, stopPolicy := stop } .cold

/-- `request_interrupt(k)`: IF is read through the bus and written back with bit k set; a k outside 0..4 is refused
(60 R318). -/
def State.requestInterrupt (s : State) (k : Nat) : Host.Outcome State Fault Refusal :=
  if k < 5 then
    .next { s with
      bus := (s.bus.read8 Config.ifAddr).2.write8 Config.ifAddr (s.peek Config.ifAddr ||| ((1 : Byte) <<< k)) }
  else .refused (.badInterruptSource k)

/-- A write of one byte of the bus by the host or a peripheral between two steps (60 R319). -/
def State.hostWrite (s : State) (a : Word) (v : Byte) : State := { s with bus := s.bus.write8 a v }

/-- Any change of the bus by the host or a peripheral between two steps (60 R319, 00_scope.md R4). -/
def State.hostChange (s : State) (bus : Bus) : State := { s with bus := bus }

/-- What the read-only accessors of 10_state.md R39 show. -/
structure Accessors where
  a : Byte
  f : Byte
  b : Byte
  c : Byte
  d : Byte
  e : Byte
  h : Byte
  l : Byte
  sp : Word
  pc : Word
  ime : Bool
  halted : Bool
  mCycles : BitVec 64
  deriving DecidableEq, Repr

/-- The accessors (R39): they have no side effect and read no bus location. -/
def State.accessors (s : State) : Accessors where
  a := s.a
  f := s.getF
  b := s.b
  c := s.c
  d := s.d
  e := s.e
  h := s.h
  l := s.l
  sp := s.sp
  pc := s.pc
  ime := s.ime
  halted := s.halted
  mCycles := s.mCycles

/-- The M-cycle count a step returns, `n` of `Next(n)` (00_scope.md R16, 60 R313): what the step added to
m_cycles. -/
def cyclesOf (before after : State) : Nat := (after.mCycles - before.mCycles).toNat

/-- Byte `i` of a 64-bit value, low byte first. -/
def byteOf64 (v : BitVec 64) (i : Nat) : Byte := v.extractLsb' (8 * i) 8

/-- The persisted record, 24 bytes (10_state.md R40). -/
def State.save (s : State) : List Byte :=
  [s.a, s.getF, s.b, s.c, s.d, s.e, s.h, s.l, loByte s.sp, hiByte s.sp, loByte s.pc, hiByte s.pc]
    ++ [bitByte s.ime, bitByte s.imePending, bitByte s.halted, bitByte s.stopped]
    ++ [byteOf64 s.mCycles 0, byteOf64 s.mCycles 1, byteOf64 s.mCycles 2, byteOf64 s.mCycles 3]
    ++ [byteOf64 s.mCycles 4, byteOf64 s.mCycles 5, byteOf64 s.mCycles 6, byteOf64 s.mCycles 7]

/-- A 64-bit value from its bytes, low byte first. -/
def word64 (v0 v1 v2 v3 v4 v5 v6 v7 : Byte) : BitVec 64 :=
  v7 ++ v6 ++ v5 ++ v4 ++ v3 ++ v2 ++ v1 ++ v0

/-- A core restored from a persisted record (R40): F through its mask, a Boolean byte true when nonzero, halt_bug and
locked 0; the bus and the policies stay. A record of another length is refused (log entry 10).

DESIGN CHOICE: a record whose bytes 14 (halted) and 15 (stopped) are both nonzero restores both bits as 1, R40 read byte
by byte, although R36 gives no reachable state both bits and D16 has a record restore to a reachable state; the spec does
not say which of the two such a record should lose. Log entry 14.

DESIGN CHOICE: a restore into a locked core, or of a record saved from one, gives a core that is not locked, as R40 and D16
have it, although R33, 60 R312, 70 R351 and D27 say that only reset leaves the locked state; the spec does not settle which
holds. Log entry 15. -/
def State.restore (s : State) (record : List Byte) : Host.Outcome State Fault Refusal :=
  match record with
  | [ra, rf, rb, rc, rd, re, rh, rl, sp0, sp1, pc0, pc1, ime, pend, hal, stp, m0, m1, m2, m3, m4, m5, m6, m7] =>
    .next
      { s with
        a := ra, f := maskF rf, b := rb, c := rc, d := rd, e := re, h := rh, l := rl
        sp := joinBytes sp1 sp0, pc := joinBytes pc1 pc0
        ime := ime != 0, imePending := pend != 0, halted := hal != 0, stopped := stp != 0
        haltBug := false, locked := false, lockedOpcode := 0, lockedAddr := 0
        mCycles := word64 m0 m1 m2 m3 m4 m5 m6 m7, trace := [] }
  | _ => .refused (.badRecord record.length)

/-- Three bytes placed in RAM at PC, PC+1 and PC+2, with the core made ready to fetch them (see `State.withFetchWord`). -/
def State.placeInstr (s : State) (b0 b1 b2 : Byte) : State :=
  let s1 := s.hostChange (.ram (((s.bus.memory.write s.pc b0).write (s.pc + 1) b1).write (s.pc + 2) b2))
  { s1 with
    locked := false, stopped := false, halted := false, haltBug := false
    ime := s1.ime && !s1.pending }

end Sys2Proof.Machine
end

