-- ==== Sys2Proof/Machine/Step.lean ====
section
/-! DEFINITION. The step function (60_exceptions.md R308). -/

namespace Sys2Proof.Machine

open Sys2Proof

/-- A step of a core that is awake, its poll made and answering `req` and `iflag`, with `pend0` the value of IME_pending
at the step's start: dispatch if IME and pending (R308 case 6), else execute the instruction at PC and commit (cases 7
and 8). The poll's values are not read again (R302). -/
def stepAwake (pend0 : Bool) (req iflag : Byte) (s : State) : Host.Outcome State Fault Refusal :=
  if s.ime && req != 0 then .next (s.dispatchInterrupt req iflag)
  else commitOutcome pend0 (exec s.fetchInstr s)

/-- The cases of R308, in order: locked, stopped, halted and idle, else awake. -/
def stepCases (s : State) : Host.Outcome State Fault Refusal :=
  if s.locked then .fault (lockedFault s)
  else if s.stopped then .next (s.stoppedStep.commitEi s.imePending)
  else if s.halted && !s.pending then .next (s.idleStep.commitEi s.imePending)
  else stepAwake s.imePending s.request s.iflag s.awake

/-- One call of `step()` (R308). -/
def step (s : State) : Host.Outcome State Fault Refusal := stepCases s.beginStep

/-- The bytes of an instruction placed where `step` fetches its next one, at PC and on from it, on a RAM bus, with the core
made to fetch there: not locked, stopped or halted, no HALT bug, and IME off if an interrupt would be dispatched instead.
Log entry 7. -/
def State.withFetchWord (s : State) (nbits w : Nat) : State :=
  s.placeInstr (BitVec.ofNat 8 (w % 2 ^ nbits)) (BitVec.ofNat 8 (w % 2 ^ nbits / 256))
    (BitVec.ofNat 8 (w % 2 ^ nbits / 65536))

end Sys2Proof.Machine
end

