-- ==== Sys2Proof/Safety.lean ====
section
/-! DEFINITION. The terms the statements use: the invariant, the rows of spec/opcode_table.json that say which flags an
instruction writes and how many M-cycles it takes, and the registers and addresses each rule writes. -/

namespace Sys2Proof

open Sys2Proof.Machine

/-- What holds of the state between any two steps: F's low nibble is zero (10_state.md R22), memory is in canonical form,
at most one of stopped and halted is set (R36), the locked record is zero when not locked (R33), and halt_bug is set only
while halted (R32; 45_misc.md R263; 60_exceptions.md R305, R309). -/
abbrev Machine.State.Inv (s : State) : Prop :=
  s.f &&& 0x0F = 0 ∧ s.bus.wf ∧ ¬(s.halted = true ∧ s.stopped = true)
    ∧ (s.locked = false → s.lockedOpcode = 0 ∧ s.lockedAddr = 0)
    ∧ (s.haltBug = true → s.halted = true)

/-- A safe outcome: the machine goes on to a state that meets the invariant. -/
abbrev Machine.safeOutcome (o : Host.Outcome State Fault Refusal) : Prop :=
  match o with
  | .next t => t.Inv
  | .fault _ => False
  | .refused _ => False

/-- One entry of a flag line (00_scope.md R15): `-`, `0`, `1`, or a computed flag. -/
inductive FlagEffect where
  | keep | clear | set | computed
  deriving DecidableEq, Repr

/-- What an entry says of a flag before and after; a computed flag's value is said by the instruction's own rule. -/
def FlagEffect.allows (x : FlagEffect) (before after : Bool) : Prop :=
  match x with
  | .keep => after = before
  | .clear => after = false
  | .set => after = true
  | .computed => True

/-- A flag line `Z N H C` (00_scope.md R15). -/
structure FlagLine where
  z : FlagEffect
  n : FlagEffect
  h : FlagEffect
  c : FlagEffect
  deriving DecidableEq, Repr

/-- The flag line of each row (`flags` of spec/opcode_table.json). -/
def Instr.flagLine (i : Instr) : FlagLine :=
  match i with
  | .addAImm _ | .adcAImm _ | .addAB | .addAC | .addAD | .addAE
  | .addAH | .addAL | .addAAtHl | .addAA | .adcAB | .adcAC
  | .adcAD | .adcAE | .adcAH | .adcAL | .adcAAtHl | .adcAA => ⟨.computed, .clear, .computed, .computed⟩
  | .subAImm _ | .sbcAImm _ | .cpAImm _ | .subAB | .subAC | .subAD
  | .subAE | .subAH | .subAL | .subAAtHl | .subAA | .sbcAB
  | .sbcAC | .sbcAD | .sbcAE | .sbcAH | .sbcAL | .sbcAAtHl
  | .sbcAA | .cpAB | .cpAC | .cpAD | .cpAE | .cpAH
  | .cpAL | .cpAAtHl | .cpAA => ⟨.computed, .set, .computed, .computed⟩
  | .andAImm _ | .andAB | .andAC | .andAD | .andAE | .andAH
  | .andAL | .andAAtHl | .andAA => ⟨.computed, .clear, .set, .clear⟩
  | .addSpOff _ | .ldHlSpOff _ => ⟨.clear, .clear, .computed, .computed⟩
  | .xorAImm _ | .orAImm _ | .swap _ | .xorAB | .xorAC | .xorAD
  | .xorAE | .xorAH | .xorAL | .xorAAtHl | .xorAA | .orAB
  | .orAC | .orAD | .orAE | .orAH | .orAL | .orAAtHl
  | .orAA => ⟨.computed, .clear, .clear, .clear⟩
  | .rlc _ | .rrc _ | .rl _ | .rr _ | .sla _ | .sra _
  | .srl _ => ⟨.computed, .clear, .clear, .computed⟩
  | .bit _ _ => ⟨.computed, .clear, .set, .keep⟩
  | .incB | .incC | .incD | .incE | .incH | .incL
  | .incAtHl | .incA => ⟨.computed, .clear, .computed, .keep⟩
  | .decB | .decC | .decD | .decE | .decH | .decL
  | .decAtHl | .decA => ⟨.computed, .set, .computed, .keep⟩
  | .rlca | .rrca | .rla | .rra => ⟨.clear, .clear, .clear, .computed⟩
  | .addHlBc | .addHlDe | .addHlHl | .addHlSp => ⟨.keep, .clear, .computed, .computed⟩
  | .daa => ⟨.computed, .keep, .clear, .computed⟩
  | .cpl => ⟨.keep, .set, .set, .keep⟩
  | .scf => ⟨.keep, .clear, .clear, .set⟩
  | .ccf => ⟨.keep, .clear, .clear, .computed⟩
  | .popAf => ⟨.computed, .computed, .computed, .computed⟩
  | _ => ⟨.keep, .keep, .keep, .keep⟩

/-- The 8-bit registers each rule writes, a pair as its two halves; F is said by `flagLine`. The entry `hlMem` of a
CB form stands for the byte at HL, which is no register. -/
def Instr.destRegs (i : Instr) : List R8 :=
  match i with
  | .ldBcImm16 _ | .incBc | .decBc | .popBc => [.b, .c]
  | .ldBImm _ | .incB | .decB | .ldBB | .ldBC | .ldBD
  | .ldBE | .ldBH | .ldBL | .ldBAtHl | .ldBA => [.b]
  | .ldCImm _ | .incC | .decC | .ldCB | .ldCC | .ldCD
  | .ldCE | .ldCH | .ldCL | .ldCAtHl | .ldCA => [.c]
  | .ldDeImm16 _ | .incDe | .decDe | .popDe => [.d, .e]
  | .ldDImm _ | .incD | .decD | .ldDB | .ldDC | .ldDD
  | .ldDE | .ldDH | .ldDL | .ldDAtHl | .ldDA => [.d]
  | .ldEImm _ | .incE | .decE | .ldEB | .ldEC | .ldED
  | .ldEE | .ldEH | .ldEL | .ldEAtHl | .ldEA => [.e]
  | .ldHlImm16 _ | .ldHlSpOff _ | .addHlBc | .addHlDe | .ldAtHlIncA | .incHl
  | .addHlHl | .decHl | .ldAtHlDecA | .addHlSp | .popHl => [.h, .l]
  | .ldHImm _ | .incH | .decH | .ldHB | .ldHC | .ldHD
  | .ldHE | .ldHH | .ldHL | .ldHAtHl | .ldHA => [.h]
  | .ldLImm _ | .incL | .decL | .ldLB | .ldLC | .ldLD
  | .ldLE | .ldLH | .ldLL | .ldLAtHl | .ldLA => [.l]
  | .ldAImm _ | .addAImm _ | .adcAImm _ | .subAImm _ | .sbcAImm _ | .andAImm _
  | .xorAImm _ | .ldhAAtImm _ | .orAImm _ | .ldAAtImm16 _ | .rlca | .ldAAtBc
  | .rrca | .rla | .ldAAtDe | .rra | .daa | .cpl
  | .incA | .decA | .ldAB | .ldAC | .ldAD | .ldAE
  | .ldAH | .ldAL | .ldAAtHl | .ldAA | .addAB | .addAC
  | .addAD | .addAE | .addAH | .addAL | .addAAtHl | .addAA
  | .adcAB | .adcAC | .adcAD | .adcAE | .adcAH | .adcAL
  | .adcAAtHl | .adcAA | .subAB | .subAC | .subAD | .subAE
  | .subAH | .subAL | .subAAtHl | .subAA | .sbcAB | .sbcAC
  | .sbcAD | .sbcAE | .sbcAH | .sbcAL | .sbcAAtHl | .sbcAA
  | .andAB | .andAC | .andAD | .andAE | .andAH | .andAL
  | .andAAtHl | .andAA | .xorAB | .xorAC | .xorAD | .xorAE
  | .xorAH | .xorAL | .xorAAtHl | .xorAA | .orAB | .orAC
  | .orAD | .orAE | .orAH | .orAL | .orAAtHl | .orAA
  | .popAf | .ldAAtC => [.a]
  | .rlc r | .rrc r | .rl r | .rr r | .sla r | .sra r
  | .swap r | .srl r | .res _ r | .set _ r => [r]
  | .ldAAtHlInc | .ldAAtHlDec => [.a, .h, .l]
  | _ => []

/-- The instructions that write SP (10_state.md R23). -/
def Instr.writesSp (i : Instr) : Bool :=
  match i with
  | .ldSpImm16 _ | .callNzImm16 _ | .callZImm16 _ | .callImm16 _ | .callNcImm16 _ | .callCImm16 _
  | .addSpOff _ | .incSp | .decSp | .retNz | .popBc | .pushBc
  | .rst00 | .retZ | .ret | .rst08 | .retNc | .popDe
  | .pushDe | .rst10 | .retC | .reti | .rst18 | .popHl
  | .pushHl | .rst20 | .rst28 | .popAf | .pushAf | .rst30
  | .ldSpHl | .rst38 => true
  | _ => false

/-- The addresses each rule stores to, from the state before the instruction (modulo 65536). -/
def Instr.storeAddrs (i : Instr) (s : State) : List Word :=
  match i with
  | .ldAtImm16Sp nn => [nn, nn + 1]
  | .ldAtHlImm _ | .ldAtHlIncA | .ldAtHlDecA | .incAtHl | .decAtHl | .ldAtHlB
  | .ldAtHlC | .ldAtHlD | .ldAtHlE | .ldAtHlH | .ldAtHlL | .ldAtHlA => [s.hl]
  | .callNzImm16 _ => if s.cond .nz then [s.sp - 2, s.sp - 1] else []
  | .callZImm16 _ => if s.cond .z then [s.sp - 2, s.sp - 1] else []
  | .callImm16 _ | .pushBc | .rst00 | .rst08 | .pushDe | .rst10
  | .rst18 | .pushHl | .rst20 | .rst28 | .pushAf | .rst30
  | .rst38 => [s.sp - 2, s.sp - 1]
  | .callNcImm16 _ => if s.cond .nc then [s.sp - 2, s.sp - 1] else []
  | .callCImm16 _ => if s.cond .c then [s.sp - 2, s.sp - 1] else []
  | .ldhAtImmA n => [0xFF00 + n.setWidth 16]
  | .ldAtImm16A nn => [nn]
  | .rlc r | .rrc r | .rl r | .rr r | .sla r | .sra r
  | .swap r | .srl r | .res _ r | .set _ r => if r = .hlMem then [s.hl] else []
  | .ldAtBcA => [s.bc]
  | .ldAtDeA => [s.de]
  | .ldAtCA => [0xFF00 + s.c.setWidth 16]
  | _ => []

/-- The instructions whose rule sets PC (44_control.md R230 to R240). -/
def Instr.setsPc (i : Instr) : Bool :=
  match i with
  | .jrOff _ | .jrNzOff _ | .jrZOff _ | .jrNcOff _ | .jrCOff _ | .jpNzImm16 _
  | .jpImm16 _ | .callNzImm16 _ | .jpZImm16 _ | .callZImm16 _ | .callImm16 _ | .jpNcImm16 _
  | .callNcImm16 _ | .jpCImm16 _ | .callCImm16 _ | .retNz | .rst00 | .retZ
  | .ret | .rst08 | .retNc | .rst10 | .retC | .reti
  | .rst18 | .rst20 | .jpHl | .rst28 | .rst30 | .rst38 => true
  | _ => false

/-- The M-cycles of each row (`cycles`, `cycles_not_taken` and `cycles_hl` of spec/opcode_table.json; an undefined byte that
does not fault takes 1, 45_misc.md R266). -/
def Instr.mCycles (i : Instr) (s : State) : Nat :=
  match i with
  | .ldBcImm16 _ | .ldDeImm16 _ | .jrOff _ | .ldHlImm16 _ | .ldSpImm16 _ | .ldAtHlImm _
  | .ldhAtImmA _ | .ldhAAtImm _ | .ldHlSpOff _ | .incAtHl | .decAtHl | .popBc
  | .popDe | .popHl | .popAf => 3
  | .ldBImm _ | .ldCImm _ | .ldDImm _ | .ldEImm _ | .ldHImm _ | .ldLImm _
  | .ldAImm _ | .addAImm _ | .adcAImm _ | .subAImm _ | .sbcAImm _ | .andAImm _
  | .xorAImm _ | .orAImm _ | .cpAImm _ | .ldAtBcA | .incBc | .addHlBc
  | .ldAAtBc | .decBc | .ldAtDeA | .incDe | .addHlDe | .ldAAtDe
  | .decDe | .ldAtHlIncA | .incHl | .addHlHl | .ldAAtHlInc | .decHl
  | .ldAtHlDecA | .incSp | .addHlSp | .ldAAtHlDec | .decSp | .ldBAtHl
  | .ldCAtHl | .ldDAtHl | .ldEAtHl | .ldHAtHl | .ldLAtHl | .ldAtHlB
  | .ldAtHlC | .ldAtHlD | .ldAtHlE | .ldAtHlH | .ldAtHlL | .ldAtHlA
  | .ldAAtHl | .addAAtHl | .adcAAtHl | .subAAtHl | .sbcAAtHl | .andAAtHl
  | .xorAAtHl | .orAAtHl | .cpAAtHl | .ldAtCA | .ldAAtC | .ldSpHl => 2
  | .ldAtImm16Sp _ => 5
  | .jrNzOff _ => if s.cond .nz then 3 else 2
  | .jrZOff _ => if s.cond .z then 3 else 2
  | .jrNcOff _ => if s.cond .nc then 3 else 2
  | .jrCOff _ => if s.cond .c then 3 else 2
  | .jpNzImm16 _ => if s.cond .nz then 4 else 3
  | .jpImm16 _ | .addSpOff _ | .ldAtImm16A _ | .ldAAtImm16 _ | .pushBc | .rst00
  | .ret | .rst08 | .pushDe | .rst10 | .reti | .rst18
  | .pushHl | .rst20 | .rst28 | .pushAf | .rst30 | .rst38 => 4
  | .callNzImm16 _ => if s.cond .nz then 6 else 3
  | .jpZImm16 _ => if s.cond .z then 4 else 3
  | .callZImm16 _ => if s.cond .z then 6 else 3
  | .callImm16 _ => 6
  | .jpNcImm16 _ => if s.cond .nc then 4 else 3
  | .callNcImm16 _ => if s.cond .nc then 6 else 3
  | .jpCImm16 _ => if s.cond .c then 4 else 3
  | .callCImm16 _ => if s.cond .c then 6 else 3
  | .rlc r | .rrc r | .rl r | .rr r | .sla r | .sra r
  | .swap r | .srl r | .res _ r | .set _ r => if r = .hlMem then 4 else 2
  | .bit _ r => if r = .hlMem then 3 else 2
  | .retNz => if s.cond .nz then 5 else 2
  | .retZ => if s.cond .z then 5 else 2
  | .retNc => if s.cond .nc then 5 else 2
  | .retC => if s.cond .c then 5 else 2
  | _ => 1

/-- The eleven undefined bytes (30_encoding.md R84). -/
def undefinedBytes : List Byte := [0xD3, 0xDB, 0xDD, 0xE3, 0xE4, 0xEB, 0xEC, 0xED, 0xF4, 0xFC, 0xFD]

/-- The instruction of an undefined byte, with the byte. -/
def Instr.undefinedByte? (i : Instr) : Option Byte :=
  match i with
  | .undefinedD3 => some 0xD3
  | .undefinedDB => some 0xDB
  | .undefinedDD => some 0xDD
  | .undefinedE3 => some 0xE3
  | .undefinedE4 => some 0xE4
  | .undefinedEB => some 0xEB
  | .undefinedEC => some 0xEC
  | .undefinedED => some 0xED
  | .undefinedF4 => some 0xF4
  | .undefinedFC => some 0xFC
  | .undefinedFD => some 0xFD
  | _ => none

end Sys2Proof
end

