-- ==== Sys2Proof/Certificates/Slice0/Obligations.lean ====
section
/-! DEFINITION. The statements for the provers, and the small terms they are written in. Every statement quantifies over all
states and every bus, so none rests on the reset contents of the bus (log entry 2) or on a draw of `stop_wake` (log entry 4);
what a statement says of RAM alone it says under `s.bus.isRam` (log entry 1). A value read is `peek` of the state the bus
calls before it have left. -/

namespace Sys2Proof.Claims

open Sys2Proof Sys2Proof.Machine

/-- `ADD` and `ADC` of an operand with a carry-in, as R152 and R153 write them. -/
def summed (s : State) (v : Byte) (cin : Nat) : State :=
  let sum := s.a.toNat + v.toNat + cin
  { s with
    a := BitVec.ofNat 8 sum
    f := packF (BitVec.ofNat 8 sum == 0) false
      (decide ((s.a &&& 0x0F).toNat + (v &&& 0x0F).toNat + cin > 0x0F)) (decide (sum > 0xFF)) }

/-- The flags of `SUB`, `SBC` and `CP` of an operand with a borrow-in, as R154, R155 and R159 write them. -/
def differenceFlags (a v : Byte) (cin : Nat) : Byte :=
  packF (BitVec.ofInt 8 ((a.toNat : Int) - v.toNat - cin) == 0) true
    (decide (((a &&& 0x0F).toNat : Int) - (v &&& 0x0F).toNat - cin < 0))
    (decide ((a.toNat : Int) - v.toNat - cin < 0))

/-- `SUB` and `SBC` of an operand with a borrow-in, as R154 and R155 write them. -/
def differed (s : State) (v : Byte) (cin : Nat) : State :=
  { s with a := BitVec.ofInt 8 ((s.a.toNat : Int) - v.toNat - cin), f := differenceFlags s.a v cin }

/-- A logical operation's result in A, with its H flag, as R156 to R158 write them. -/
def logical (s : State) (value : Byte) (h : Bool) : State :=
  { s with a := value, f := packF (value == 0) false h false }

/-- F.C as a number. -/
def carryOf (s : State) : Nat := if s.flagC then 1 else 0

/-- One ALU operation on its nine operands: its encodings, and what it does to A and F in each form (R151). -/
def AluRow (op : AluOp) (y : Nat) (immByte : Byte) (effect : State → Byte → State) : Prop :=
  (∀ z, encode (decodeAlu op z) = [byteOfFields 2 y (r8Index z)]) ∧
    (∀ n, encode (decodeAluImm op n) = [immByte, n]) ∧
    ∀ s,
      (∀ z, exec (decodeAlu op z) s =
        .next ((effect (s.fetch1.touchR z) (s.fetch1.getR z)).tick (if z = .hlMem then 2 else 1))) ∧
      ∀ n, exec (decodeAluImm op n) s = .next ((effect s.fetch2 n).tick 2)

/-- A CB rotate or shift on its eight operands: its encoding, the result written back, and its flags. -/
def CbRow (i : R8 → Instr) (y : Nat) (result : Byte → Bool → Byte) (out : Byte → Bool) : Prop :=
  ∀ r, encode (i r) = [0xCB, byteOfFields 0 y (r8Index r)] ∧
    ∀ s, exec (i r) s =
      .next (((((s.fetch2.touchR r).setR r (result (s.fetch2.getR r) s.flagC)).setFlags
        (result (s.fetch2.getR r) s.flagC == 0) false false (out (s.fetch2.getR r))).tick
          (if r = .hlMem then 4 else 2)))

/-- An accumulator rotate: its encoding, A, and C from the bit shifted out, with Z, N and H clear. -/
def AccRow (i : Instr) (op : Byte) (result : Byte → Bool → Byte) (out : Byte → Bool) : Prop :=
  encode i = [op] ∧
    ∀ s, exec i s =
      .next (({ s.fetch1 with a := result s.a s.flagC, f := packF false false false (out s.a) } : State).tick 1)

/-- Bit 0 of a byte moved to bit 7. -/
def bit7 (c : Bool) : Byte := if c then 0x80 else 0

/-- Bit 7 of a byte moved to bit 0. -/
def bit0 (c : Bool) : Byte := if c then 0x01 else 0

/-- The step is neither locked, nor stopped, nor an idle halted one, nor a dispatch: it executes the instruction at PC
(60_exceptions.md R308 case 7). -/
def Executes (s : State) : Prop :=
  s.locked = false ∧ s.stopped = false ∧ (s.halted = true → s.pending = true) ∧
    (s.ime = true → s.pending = false)

/-- The state after a step's poll of IE and IF, with halted clear: the state its instruction starts from
(60_exceptions.md R302, R308). -/
def afterPoll (s : State) : State :=
  { s with
    trace := [.read 0xFFFF, .read 0xFF0F]
    bus := ((s.bus.read8 0xFFFF).2.read8 0xFF0F).2
    halted := false }

/-- The packed BCD byte of a number below 100. -/
def bcd (n : Nat) : Byte := BitVec.ofNat 8 (16 * (n / 10) + n % 10)

end Sys2Proof.Claims

open Sys2Proof Sys2Proof.Machine Sys2Proof.Claims

/-! ## Encoding -/

/-- Decoding the bytes of a well-formed instruction, whatever bytes follow, gives it back with every operand
(30_encoding.md R70 to R86). -/
def Obligations.DecodeOfEncodeIsTheInstruction : Prop :=
  ∀ i : Instr, i.wellFormed = true → ∀ rest, decode (encode i ++ rest) = .ok (i, rest)

/-- Every byte decodes, to a well-formed instruction whose encoding is exactly the bytes it was read from (30_encoding.md
R86, R88). -/
def Obligations.EveryByteDecodesToOneRow : Prop :=
  ∀ op b1 b2 : Byte,
    (decodeInstr op b1 b2).wellFormed = true ∧
      encode (decodeInstr op b1 b2) = [op, b1, b2].take (opLength op)

/-- A first byte decodes to an undefined row exactly when it is one of the eleven bytes, and then to the row of that very
byte; no byte after 0xCB is undefined (30_encoding.md R84). -/
def Obligations.ExactlyElevenBytesAreUndefined : Prop :=
  (∀ op b1 b2 : Byte, (decodeInstr op b1 b2).undefinedByte? =
    if undefinedBytes.contains op then some op else none) ∧ undefinedBytes.length = 11

/-- Words written out from the spec's encodings decode to the instructions they stand for (40_load8.md R102, 41_load16.md
R130, R134, 42_alu.md R157, 43_rotate_bit.md R211, R215, 44_control.md R230, R234, 45_misc.md R263, R266). -/
def Obligations.SpecExampleWordsDecode : Prop :=
  decodeTableWord 8 0x70 = some .ldAtHlB ∧ decodeTableWord 24 0xC00021 = some (.ldHlImm16 0xC000) ∧
    decodeTableWord 8 0xC5 = some .pushBc ∧ decodeTableWord 8 0xAF = some .xorAA ∧
    decodeTableWord 16 0x37CB = some (.swap .a) ∧ decodeTableWord 16 0xFECB = some (.set 7 .hlMem) ∧
    decodeTableWord 24 0x1234C3 = some (.jpImm16 0x1234) ∧ decodeTableWord 16 0x0520 = some (.jrNzOff 0x05) ∧
    decodeTableWord 8 0x76 = some .halt ∧ decodeTableWord 8 0xD3 = some .undefinedD3

/-! ## 8-bit loads -/

/-- `LD r,r'` (40_load8.md R100), the 49 forms without (HL). That the 8-bit loads have no internal cycle is the spec's
general knowledge GK6. -/
def Obligations.LdRegisterToRegister : Prop :=
  ∀ y z : R8, y ≠ .hlMem → z ≠ .hlMem →
    encode (decodeLdR y z) = [byteOfFields 1 (r8Index y) (r8Index z)] ∧
      ∀ s, exec (decodeLdR y z) s = .next ((s.fetch1.setR y (s.getR z)).tick 1)

/-- `LD r,(HL)` and `LD (HL),r` (40_load8.md R101, R102), each with its one bus call at HL; the counts rest on GK6. -/
def Obligations.LdRegisterAndMemoryAtHl : Prop :=
  ∀ r : R8, r ≠ .hlMem →
    encode (decodeLdR r .hlMem) = [byteOfFields 1 (r8Index r) 6] ∧
      encode (decodeLdR .hlMem r) = [byteOfFields 1 6 (r8Index r)] ∧
      ∀ s,
        exec (decodeLdR r .hlMem) s = .next (((s.fetch1.noteRead s.hl).setR r (s.fetch1.peek s.hl)).tick 2) ∧
          exec (decodeLdR .hlMem r) s = .next ((s.fetch1.busWrite s.hl (s.getR r)).tick 2)

/-- `LD r,n` and `LD (HL),n` (40_load8.md R103, R104); the counts rest on GK6. -/
def Obligations.LdImmediateByte : Prop :=
  ∀ (r : R8) (n : Byte),
    encode (decodeLdRImm r n) = [byteOfFields 0 (r8Index r) 6, n] ∧
      ∀ s, exec (decodeLdRImm r n) s = .next ((s.fetch2.setR r n).tick (if r = .hlMem then 3 else 2))

/-- `LD A,(BC)`, `LD A,(DE)`, `LD (BC),A`, `LD (DE),A` (40_load8.md R105 to R108); the counts rest on GK6. -/
def Obligations.LdAccumulatorIndirect : Prop :=
  encode .ldAAtBc = [0x0A] ∧ encode .ldAAtDe = [0x1A] ∧ encode .ldAtBcA = [0x02] ∧ encode .ldAtDeA = [0x12] ∧
    ∀ s,
      exec .ldAAtBc s = .next (({ s.fetch1.noteRead s.bc with a := s.fetch1.peek s.bc } : State).tick 2) ∧
        exec .ldAAtDe s = .next (({ s.fetch1.noteRead s.de with a := s.fetch1.peek s.de } : State).tick 2) ∧
        exec .ldAtBcA s = .next ((s.fetch1.busWrite s.bc s.a).tick 2) ∧
        exec .ldAtDeA s = .next ((s.fetch1.busWrite s.de s.a).tick 2)

/-- `LD A,(HL+)`, `LD A,(HL-)`, `LD (HL+),A`, `LD (HL-),A` (40_load8.md section 2); that HL wraps modulo 65536 is the
spec's decision D1. -/
def Obligations.LdAccumulatorMovesHl : Prop :=
  encode .ldAAtHlInc = [0x2A] ∧ encode .ldAAtHlDec = [0x3A] ∧ encode .ldAtHlIncA = [0x22] ∧
    encode .ldAtHlDecA = [0x32] ∧
    ∀ s,
      exec .ldAAtHlInc s =
          .next ((({ s.fetch1.noteRead s.hl with a := s.fetch1.peek s.hl } : State).setHl (s.hl + 1)).tick 2) ∧
        exec .ldAAtHlDec s =
          .next ((({ s.fetch1.noteRead s.hl with a := s.fetch1.peek s.hl } : State).setHl (s.hl - 1)).tick 2) ∧
        exec .ldAtHlIncA s = .next (((s.fetch1.busWrite s.hl s.a).setHl (s.hl + 1)).tick 2) ∧
        exec .ldAtHlDecA s = .next (((s.fetch1.busWrite s.hl s.a).setHl (s.hl - 1)).tick 2)

/-- `LDH (n),A`, `LDH A,(n)`, `LD (C),A`, `LD A,(C)` (40_load8.md R113 to R116); the counts rest on GK6. -/
def Obligations.LdAccumulatorIoPage : Prop :=
  (∀ n, encode (.ldhAtImmA n) = [0xE0, n] ∧ encode (.ldhAAtImm n) = [0xF0, n]) ∧
    encode .ldAtCA = [0xE2] ∧ encode .ldAAtC = [0xF2] ∧
    ∀ s,
      (∀ n : Byte,
        exec (.ldhAtImmA n) s = .next ((s.fetch2.busWrite (0xFF00 + n.setWidth 16) s.a).tick 3) ∧
          exec (.ldhAAtImm n) s =
            .next (({ s.fetch2.noteRead (0xFF00 + n.setWidth 16) with
              a := s.fetch2.peek (0xFF00 + n.setWidth 16) } : State).tick 3)) ∧
        exec .ldAtCA s = .next ((s.fetch1.busWrite (0xFF00 + s.c.setWidth 16) s.a).tick 2) ∧
        exec .ldAAtC s =
          .next (({ s.fetch1.noteRead (0xFF00 + s.c.setWidth 16) with
            a := s.fetch1.peek (0xFF00 + s.c.setWidth 16) } : State).tick 2)

/-- `LD (nn),A` and `LD A,(nn)` (40_load8.md R117, R118); the counts rest on GK6. -/
def Obligations.LdAccumulatorAbsolute : Prop :=
  ∀ nn : Word,
    encode (.ldAtImm16A nn) = [0xEA, loByte nn, hiByte nn] ∧
      encode (.ldAAtImm16 nn) = [0xFA, loByte nn, hiByte nn] ∧
      ∀ s,
        exec (.ldAtImm16A nn) s = .next ((s.fetch3.busWrite nn s.a).tick 4) ∧
          exec (.ldAAtImm16 nn) s =
            .next (({ s.fetch3.noteRead nn with a := s.fetch3.peek nn } : State).tick 4)

/-! ## 16-bit loads and the stack -/

/-- `LD rp,nn`, `LD (nn),SP` and `LD SP,HL` (41_load16.md); the wrap of nn+1 is the spec's decision D1 and the count of
`LD SP,HL` its general knowledge GK6. -/
def Obligations.LdSixteenBit : Prop :=
  (∀ (p : Rp) (nn : Word),
    encode (decodeLdRpImm p nn) = [BitVec.ofNat 8 (16 * rpIndex p + 1), loByte nn, hiByte nn] ∧
      ∀ s, exec (decodeLdRpImm p nn) s = .next ((s.fetch3.setRp p nn).tick 3)) ∧
    (∀ nn : Word,
      encode (.ldAtImm16Sp nn) = [0x08, loByte nn, hiByte nn] ∧
        ∀ s, exec (.ldAtImm16Sp nn) s =
          .next (((s.fetch3.busWrite nn (loByte s.sp)).busWrite (nn + 1) (hiByte s.sp)).tick 5)) ∧
    encode .ldSpHl = [0xF9] ∧ ∀ s, exec .ldSpHl s = .next (({ s.fetch1 with sp := s.hl } : State).tick 2)

/-- `LD HL,SP+e` and `ADD SP,e`: the same sum and the same flags, from the low byte of SP and the unsigned byte e
(41_load16.md, 42_alu.md section 4); the M-cycle counts are the spec's general knowledge GK6. -/
def Obligations.SpPlusSignedOffset : Prop :=
  ∀ e : Byte,
    encode (.ldHlSpOff e) = [0xF8, e] ∧ encode (.addSpOff e) = [0xE8, e] ∧
      ∀ s : State,
        let sum := s.sp + BitVec.ofInt 16 e.toInt
        let flags := packF false false (decide ((s.sp &&& 0x0F).toNat + (e &&& 0x0F).toNat > 0x0F))
          (decide ((s.sp &&& 0xFF).toNat + e.toNat > 0xFF))
        exec (.ldHlSpOff e) s = .next (({ s.fetch2.setHl sum with f := flags } : State).tick 3) ∧
          exec (.addSpOff e) s = .next (({ s.fetch2 with sp := sum, f := flags } : State).tick 4)

/-- `PUSH rp2`: SP falls by 2, the low register goes to the new SP and then the high one above it (41_load16.md); the order of
the two writes is the spec's decision D18 and the count its general knowledge GK6. -/
def Obligations.PushStoresPairBelowSp : Prop :=
  ∀ p : Rp2,
    encode (decodePush p) = [BitVec.ofNat 8 (0xC5 + 16 * rp2Index p)] ∧
      ∀ s, exec (decodePush p) s =
        .next (((({ s.fetch1 with sp := s.sp - 2 } : State).busWrite (s.sp - 2) (loByte (s.getRp2 p))).busWrite
          (s.sp - 1) (hiByte (s.getRp2 p))).tick 4)

/-- `POP rp2`: low byte at SP, high byte above it, SP rises by 2; for AF the low nibble of F is stored as zero
(41_load16.md R135); the count rests on GK6. -/
def Obligations.PopLoadsPairFromSp : Prop :=
  ∀ p : Rp2,
    encode (decodePop p) = [BitVec.ofNat 8 (0xC1 + 16 * rp2Index p)] ∧
      ∀ s, exec (decodePop p) s =
        .next ((({ (s.fetch1.noteRead s.sp).noteRead (s.sp + 1) with sp := s.sp + 2 } : State).setRp2 p
          ((s.fetch1.noteRead s.sp).peek (s.sp + 1) ++ s.fetch1.peek s.sp)).tick 3)

/-! ## Arithmetic and logic -/

/-- `ADD A,v` and `ADC A,v` on a register, on (HL) and on an immediate (42_alu.md R151 to R153); the counts rest
on GK6. -/
def Obligations.AddAndAdcResultAndFlags : Prop :=
  AluRow .add 0 0xC6 (fun s v => summed s v 0) ∧ AluRow .adc 1 0xCE (fun s v => summed s v (carryOf s))

/-- `SUB A,v`, `SBC A,v` and `CP A,v` on a register, on (HL) and on an immediate (42_alu.md section 2); C of SBC is the
spec's own derivation. -/
def Obligations.SubSbcAndCpResultAndFlags : Prop :=
  AluRow .sub 2 0xD6 (fun s v => differed s v 0) ∧
    AluRow .sbc 3 0xDE (fun s v => differed s v (carryOf s)) ∧
    AluRow .cp 7 0xFE (fun s v => { s with f := differenceFlags s.a v 0 })

/-- `AND A,v`, `XOR A,v` and `OR A,v` on a register, on (HL) and on an immediate (42_alu.md section 2); that y=5 is XOR and
y=6 is OR is the spec's general knowledge GK3. -/
def Obligations.LogicResultAndFlags : Prop :=
  AluRow .and 4 0xE6 (fun s v => logical s (s.a &&& v) true) ∧
    AluRow .xor 5 0xEE (fun s v => logical s (s.a ^^^ v) false) ∧
    AluRow .or 6 0xF6 (fun s v => logical s (s.a ||| v) false)

/-- `INC r`, `INC (HL)`, `DEC r`, `DEC (HL)`: Z, N and H are written, C is kept (42_alu.md section 3); the H formulas are the
spec's own derivation. -/
def Obligations.IncAndDecByte : Prop :=
  ∀ r : R8,
    encode (decodeIncR r) = [byteOfFields 0 (r8Index r) 4] ∧ encode (decodeDecR r) = [byteOfFields 0 (r8Index r) 5] ∧
      ∀ s : State,
        let v := s.fetch1.getR r
        exec (decodeIncR r) s =
            .next ((({ (s.fetch1.touchR r).setR r (v + 1) with
              f := packF (v + 1 == 0) false (decide (v &&& 0x0F = 0x0F)) s.flagC } : State)).tick
                (if r = .hlMem then 3 else 1)) ∧
          exec (decodeDecR r) s =
            .next ((({ (s.fetch1.touchR r).setR r (v - 1) with
              f := packF (v - 1 == 0) true (decide (v &&& 0x0F = 0)) s.flagC } : State)).tick
                (if r = .hlMem then 3 else 1))

/-- `INC rp` and `DEC rp`: modulo 65536, no flag (42_alu.md section 4); the counts are the spec's general knowledge GK6. -/
def Obligations.IncAndDecPair : Prop :=
  ∀ p : Rp,
    encode (decodeIncRp p) = [BitVec.ofNat 8 (16 * rpIndex p + 0x03)] ∧
      encode (decodeDecRp p) = [BitVec.ofNat 8 (16 * rpIndex p + 0x0B)] ∧
      ∀ s,
        exec (decodeIncRp p) s = .next ((s.fetch1.setRp p (s.getRp p + 1)).tick 2) ∧
          exec (decodeDecRp p) s = .next ((s.fetch1.setRp p (s.getRp p - 1)).tick 2)

/-- `ADD HL,rp`: Z kept, N clear, H from bit 11, C from bit 15 (42_alu.md section 4); the count is the spec's general
knowledge GK6. -/
def Obligations.AddPairToHl : Prop :=
  ∀ p : Rp,
    encode (decodeAddHlRp p) = [BitVec.ofNat 8 (16 * rpIndex p + 0x09)] ∧
      ∀ s, exec (decodeAddHlRp p) s =
        .next (({ s.fetch1.setHl (BitVec.ofNat 16 (s.hl.toNat + (s.getRp p).toNat)) with
          f := packF s.flagZ false (decide ((s.hl &&& 0x0FFF).toNat + (s.getRp p &&& 0x0FFF).toNat > 0x0FFF))
            (decide (s.hl.toNat + (s.getRp p).toNat > 0xFFFF)) } : State).tick 2)

/-- `DAA` by the pseudocode of R168, over the integers before truncation: after an addition 0x60 is added (and C set) if C
or A > 0x99, and 0x06 if H or the low nibble is above 9; after a subtraction 0x60 is subtracted if C and 0x06 if H; the count rests on
GK6. -/
def Obligations.DecimalAdjust : Prop :=
  encode .daa = [0x27] ∧
    ∀ s : State,
      let up : Bool := s.flagC || decide (s.a.toNat > 0x99)
      let adjusted : Int :=
        if s.flagN then
          (s.a.toNat : Int) - (if s.flagC then 0x60 else 0) - (if s.flagH then 0x06 else 0)
        else
          (s.a.toNat : Int) + (if up then 0x60 else 0)
            + (if s.flagH || decide ((s.a &&& 0x0F).toNat > 0x09) then 0x06 else 0)
      exec .daa s =
        .next (({ s.fetch1 with
          a := BitVec.ofInt 8 adjusted
          f := packF (BitVec.ofInt 8 adjusted == 0) s.flagN false (if s.flagN then s.flagC else up) } : State).tick 1)

/-- `CPL`, `SCF` and `CCF` (42_alu.md R169 to R171); the counts rest on GK6. -/
def Obligations.ComplementAndCarryOperations : Prop :=
  encode .cpl = [0x2F] ∧ encode .scf = [0x37] ∧ encode .ccf = [0x3F] ∧
    ∀ s : State,
      exec .cpl s =
          .next (({ s.fetch1 with a := s.a ^^^ 0xFF, f := packF s.flagZ true true s.flagC } : State).tick 1) ∧
        exec .scf s = .next (({ s.fetch1 with f := packF s.flagZ false false true } : State).tick 1) ∧
        exec .ccf s = .next (({ s.fetch1 with f := packF s.flagZ false false (!s.flagC) } : State).tick 1)

/-- ADD followed by DAA adds two packed BCD numbers, and SUB followed by DAA subtracts them, modulo 100, with the carry or
borrow in C (42_alu.md R152, R154, R168; the vector PROG-5). -/
def Obligations.DecimalAdjustMakesBcdArithmetic : Prop :=
  ∀ x y : Nat, x < 100 → y < 100 → ∀ s : State, s.a = bcd x →
    (∀ t, exec (.addAImm (bcd y)) s = .next t →
      ∃ u, exec .daa t = .next u ∧ u.a = bcd ((x + y) % 100) ∧ u.flagC = decide (x + y ≥ 100)) ∧
    (∀ t, exec (.subAImm (bcd y)) s = .next t →
      ∃ u, exec .daa t = .next u ∧ u.a = bcd ((x + 100 - y) % 100) ∧ u.flagC = decide (x < y))

/-! ## Rotates, shifts and bits -/

/-- `RLCA`, `RRCA`, `RLA`, `RRA` (43_rotate_bit.md section 1); the data operations are the spec's general knowledge GK4. -/
def Obligations.AccumulatorRotates : Prop :=
  AccRow .rlca 0x07 (fun a _ => a.rotateLeft 1) (·.getLsbD 7) ∧
    AccRow .rrca 0x0F (fun a _ => a.rotateRight 1) (·.getLsbD 0) ∧
    AccRow .rla 0x17 (fun a c => (a <<< 1) ||| bit0 c) (·.getLsbD 7) ∧
    AccRow .rra 0x1F (fun a c => (a >>> 1) ||| bit7 c) (·.getLsbD 0)

/-- The eight CB rotates and shifts on every operand (43_rotate_bit.md sections 2 and 3); the data operations and N = H = 0
are the spec's general knowledge GK4 and GK5, and the (HL) counts its own derivation. -/
def Obligations.CbRotatesAndShifts : Prop :=
  CbRow .rlc 0 (fun v _ => v.rotateLeft 1) (·.getLsbD 7) ∧
    CbRow .rrc 1 (fun v _ => v.rotateRight 1) (·.getLsbD 0) ∧
    CbRow .rl 2 (fun v c => (v <<< 1) ||| bit0 c) (·.getLsbD 7) ∧
    CbRow .rr 3 (fun v c => (v >>> 1) ||| bit7 c) (·.getLsbD 0) ∧
    CbRow .sla 4 (fun v _ => v <<< 1) (·.getLsbD 7) ∧
    CbRow .sra 5 (fun v _ => v.sshiftRight 1) (·.getLsbD 0) ∧
    CbRow .swap 6 (fun v _ => v.rotateLeft 4) (fun _ => false) ∧
    CbRow .srl 7 (fun v _ => v >>> 1) (·.getLsbD 0)

/-- `BIT b,r`, `RES b,r` and `SET b,r` on every bit and operand (43_rotate_bit.md R213 to R215): RES and
SET change exactly bit b; the counts are the spec's own derivation and GK6. -/
def Obligations.BitTestResetAndSet : Prop :=
  ∀ (b : BitVec 3) (r : R8),
    encode (.bit b r) = [0xCB, byteOfFields 1 b.toNat (r8Index r)] ∧
      encode (.res b r) = [0xCB, byteOfFields 2 b.toNat (r8Index r)] ∧
      encode (.set b r) = [0xCB, byteOfFields 3 b.toNat (r8Index r)] ∧
      ∀ s : State,
        exec (.bit b r) s =
            .next (({ s.fetch2.touchR r with
              f := packF (!(s.fetch2.getR r).getLsbD b.toNat) false true s.flagC } : State).tick
                (if r = .hlMem then 3 else 2)) ∧
          (∃ v : Byte,
            (∀ j < 8, v.getLsbD j = if j = b.toNat then false else (s.fetch2.getR r).getLsbD j) ∧
              exec (.res b r) s =
                .next (((s.fetch2.touchR r).setR r v).tick (if r = .hlMem then 4 else 2))) ∧
          ∃ v : Byte,
            (∀ j < 8, v.getLsbD j = if j = b.toNat then true else (s.fetch2.getR r).getLsbD j) ∧
              exec (.set b r) s =
                .next (((s.fetch2.touchR r).setR r v).tick (if r = .hlMem then 4 else 2))

/-! ## Control transfer -/

/-- `JP nn`, `JP cc,nn` and `JP HL` (44_control.md R230 to R232), and what the four conditions test, in every conditional
instruction (30_encoding.md R75): NZ and Z bit 7 of F, NC and C bit 4. The opcode bytes of JP cc and JP HL are the spec's
general knowledge GK1 and the conditions its GK16. -/
def Obligations.JumpAbsolute : Prop :=
  (∀ nn : Word,
    encode (.jpImm16 nn) = [0xC3, loByte nn, hiByte nn] ∧
      (∀ cc, encode (decodeJpCc cc nn) = [BitVec.ofNat 8 (0xC2 + 8 * ccIndex cc), loByte nn, hiByte nn]) ∧
      ∀ s,
        exec (.jpImm16 nn) s = .next (({ s.fetch3 with pc := nn } : State).tick 4) ∧
          ∀ cc, exec (decodeJpCc cc nn) s =
            .next (if s.cond cc then ({ s.fetch3 with pc := nn } : State).tick 4 else s.fetch3.tick 3)) ∧
    encode .jpHl = [0xE9] ∧ (∀ s, exec .jpHl s = .next (({ s.fetch1 with pc := s.hl } : State).tick 1)) ∧
    ∀ s : State, s.cond .nz = !s.f.getLsbD 7 ∧ s.cond .z = s.f.getLsbD 7 ∧ s.cond .nc = !s.f.getLsbD 4 ∧
      s.cond .c = s.f.getLsbD 4

/-- `JR e` and `JR cc,e`, relative to the address after the instruction (44_control.md section 1); the count of `JR e` is
the spec's general knowledge GK6 and the wrap its decision D1. -/
def Obligations.JumpRelative : Prop :=
  ∀ e : Byte,
    encode (.jrOff e) = [0x18, e] ∧ (∀ cc, encode (decodeJrCc cc e) = [BitVec.ofNat 8 (0x20 + 8 * ccIndex cc), e]) ∧
      ∀ s : State,
        let target := s.fetch2.pc + BitVec.ofInt 16 e.toInt
        exec (.jrOff e) s = .next (({ s.fetch2 with pc := target } : State).tick 3) ∧
          ∀ cc, exec (decodeJrCc cc e) s =
            .next (if s.cond cc then ({ s.fetch2 with pc := target } : State).tick 3 else s.fetch2.tick 2)

/-- `CALL nn` and `CALL cc,nn`: the address after the instruction is pushed, low byte at SP-2 (44_control.md section 2); the
order of the writes is the spec's decision D18. -/
def Obligations.CallPushesReturnAddress : Prop :=
  ∀ nn : Word,
    encode (.callImm16 nn) = [0xCD, loByte nn, hiByte nn] ∧
      (∀ cc, encode (decodeCallCc cc nn) = [BitVec.ofNat 8 (0xC4 + 8 * ccIndex cc), loByte nn, hiByte nn]) ∧
      ∀ s : State,
        let called : State :=
          ({ (({ s.fetch3 with sp := s.sp - 2 } : State).busWrite (s.sp - 2) (loByte s.fetch3.pc)).busWrite
            (s.sp - 1) (hiByte s.fetch3.pc) with pc := nn } : State).tick 6
        exec (.callImm16 nn) s = .next called ∧
          ∀ cc, exec (decodeCallCc cc nn) s = .next (if s.cond cc then called else s.fetch3.tick 3)

/-- `RET` and `RET cc` (44_control.md R237, R238); the opcode bytes are the spec's general knowledge GK1 and the conditions
its GK16. -/
def Obligations.ReturnPopsPc : Prop :=
  encode .ret = [0xC9] ∧ (∀ cc, encode (decodeRetCc cc) = [BitVec.ofNat 8 (0xC0 + 8 * ccIndex cc)]) ∧
    ∀ s : State,
      let returned : State :=
        { (s.fetch1.noteRead s.sp).noteRead (s.sp + 1) with
          sp := s.sp + 2
          pc := (s.fetch1.noteRead s.sp).peek (s.sp + 1) ++ s.fetch1.peek s.sp }
      exec .ret s = .next (returned.tick 4) ∧
        ∀ cc, exec (decodeRetCc cc) s = .next (if s.cond cc then returned.tick 5 else s.fetch1.tick 2)

/-- `RETI`: PC is popped and IME is 1 at once; IME_pending is unchanged, which is the spec's decision D13
(44_control.md section 2). -/
def Obligations.ReturnFromInterruptSetsIme : Prop :=
  encode .reti = [0xD9] ∧
    ∀ s : State, exec .reti s =
      .next (({ (s.fetch1.noteRead s.sp).noteRead (s.sp + 1) with
        sp := s.sp + 2
        pc := (s.fetch1.noteRead s.sp).peek (s.sp + 1) ++ s.fetch1.peek s.sp
        ime := true } : State).tick 4)

/-- `RST t`: the address after the instruction is pushed and PC is 8*y (44_control.md section 3); the vectors' formula is the
spec's own derivation. -/
def Obligations.RestartPushesAndJumps : Prop :=
  ∀ y < 8,
    encode (decodeRst y) = [byteOfFields 3 y 7] ∧
      ∀ s : State, exec (decodeRst y) s =
        .next (({ (({ s.fetch1 with sp := s.sp - 2 } : State).busWrite (s.sp - 2) (loByte s.fetch1.pc)).busWrite
          (s.sp - 1) (hiByte s.fetch1.pc) with pc := BitVec.ofNat 16 (8 * y) } : State).tick 4)

/-! ## Control of the core -/

/-- `NOP`, `DI` and `EI` (45_misc.md): DI clears IME and the latch at once, EI only sets the latch; that DI clears the latch
is the spec's decision D6. -/
def Obligations.NopDiAndEi : Prop :=
  encode .nop = [0x00] ∧ encode .di = [0xF3] ∧ encode .ei = [0xFB] ∧
    ∀ s : State,
      exec .nop s = .next (s.fetch1.tick 1) ∧
        exec .di s = .next (({ s.fetch1 with ime := false, imePending := false } : State).tick 1) ∧
        exec .ei s = .next (({ s.fetch1 with imePending := true } : State).tick 1)

/-- `HALT` polls IE and IF, sets halted, and arms the HALT bug exactly when IME = 0 and an interrupt is pending
(45_misc.md; the arming and the two reads are the spec's decisions D4 and D12). -/
def Obligations.HaltPollsAndArmsBug : Prop :=
  encode .halt = [0x76] ∧
    ∀ s : State,
      let pending := decide (s.fetch1.peek 0xFFFF &&& (s.fetch1.noteRead 0xFFFF).peek 0xFF0F &&& 0x1F ≠ 0)
      exec .halt s =
        .next (({ (s.fetch1.noteRead 0xFFFF).noteRead 0xFF0F with
          halted := true
          haltBug := decide (s.ime = false) && pending } : State).tick 1)

/-- `STOP` sets stopped under StopState and halted under AsHalt, with no poll (45_misc.md; the spec's decisions D9 and
D10). -/
def Obligations.StopByPolicy : Prop :=
  encode .stop = [0x10] ∧
    ∀ s : State,
      (s.stopPolicy = .stopState → exec .stop s = .next (({ s.fetch1 with stopped := true } : State).tick 1)) ∧
        (s.stopPolicy = .asHalt → exec .stop s = .next (({ s.fetch1 with halted := true } : State).tick 1))

/-- The byte 0xCB and any second byte complete as the instruction of the CB map, in one step; under the HALT bug 0xCB is
read again as its second byte and is `SET 1,E` (45_misc.md, the last the spec's own derivation). -/
def Obligations.CbByteRunsItsMapEntry : Prop :=
  (∀ op2 : Byte,
    encode (.prefixCb op2) = [0xCB, op2] ∧ (∀ b, decodeInstr 0xCB op2 b = decodeCb op2) ∧
      (decodeCb op2).wellFormed = true ∧
      ∀ s, ∃ t, exec (.prefixCb op2) s = .next t ∧ exec (decodeCb op2) s = .next t) ∧
    ∀ s : State, s.haltBug = true → s.peek s.pc = 0xCB → s.fetch1.peek s.pc = 0xCB → s.fetchInstr = .set 1 .e

/-- The eleven undefined bytes: under NopWithWarning they are skipped in one M-cycle; under Lock they raise UnknownOpcode
with the byte and its address, and the core is left locked, PC after the byte, m_cycles not advanced (45_misc.md; the
spec's decisions D11, D27 and D29). -/
def Obligations.UndefinedByteByPolicy : Prop :=
  ∀ (i : Instr) (op : Byte), i.undefinedByte? = some op →
    encode i = [op] ∧
      ∀ s : State,
        (s.unknownOpcodePolicy = .nopWithWarning → exec i s = .next (s.fetch1.tick 1)) ∧
          (s.unknownOpcodePolicy = .lock →
            exec i s = .fault (.unknownOpcode op s.pc
              { s.fetch1 with locked := true, lockedOpcode := op, lockedAddr := s.pc }))

/-! ## The stepper -/

/-- The opcode fetch reads the byte at PC and advances PC, but under the HALT bug leaves PC and clears the bit; operand bytes
always advance PC, and under the bug the opcode is read again as the first of them (60_exceptions.md; the spec's decision
D4). -/
def Obligations.FetchAdvancesPcButForHaltBug : Prop :=
  ∀ s : State,
    (s.haltBug = false →
      s.fetch1 = { s with pc := s.pc + 1, bus := (s.bus.read8 s.pc).2, trace := s.trace ++ [.read s.pc] } ∧
        s.fetchInstr = decodeInstr (s.peek s.pc) (s.fetch1.peek (s.pc + 1)) (s.fetch2.peek (s.pc + 2))) ∧
      (s.haltBug = true →
        s.fetch1 = { s with haltBug := false, bus := (s.bus.read8 s.pc).2, trace := s.trace ++ [.read s.pc] } ∧
          s.fetchInstr = decodeInstr (s.peek s.pc) (s.fetch1.peek s.pc) (s.fetch2.peek (s.pc + 1))) ∧
      s.fetch2 = { s.fetch1.noteRead s.fetch1.pc with pc := s.fetch1.pc + 1 } ∧
      s.fetch3 = { s.fetch2.noteRead s.fetch2.pc with pc := s.fetch2.pc + 1 }

/-- When the bytes at PC, as the fetch reads them after the poll, decode to a well-formed instruction and the step is one that
executes, the step is that instruction's meaning from the state whose poll has been made and whose halted bit is clear,
followed by the EI commit (60_exceptions.md section 4, cases 4 to 8). That halted is clear in the state a fault leaves too is
the model's choice, log entry 13. -/
def Obligations.StepRunsTheDecodedInstruction : Prop :=
  ∀ (s : State) (i : Instr), Executes s → i.wellFormed = true →
    let u := afterPoll s
    decodeInstr (u.peek u.pc) (u.fetch1.peek u.fetch1.pc) (u.fetch2.peek u.fetch2.pc) = i →
    step s =
      match exec i u with
      | .next t =>
        .next (if s.imePending = true ∧ t.imePending = true then { t with ime := true, imePending := false } else t)
      | .fault r => .fault r
      | .refused r => .refused r

/-- With IME = 1 and an interrupt pending the step is a dispatch: the lowest enabled and requested source k is served, its
bit of IF is cleared, IME, IME_pending, halted and halt_bug are cleared, the return address is pushed (the HALT's own
under halt_bug) and PC is 0x0040 + 8k (60_exceptions.md sections 2 and 3; the spec's decisions D5, D7, D18, D19, D20). -/
def Obligations.StepDispatchesPendingInterrupt : Prop :=
  ∀ (s : State) (k : Nat), s.locked = false → s.stopped = false → s.ime = true → k < 5 →
    let iflag := (s.noteRead 0xFFFF).peek 0xFF0F
    let req := s.peek 0xFFFF &&& iflag &&& 0x1F
    req.getLsbD k = true → (∀ j < k, req.getLsbD j = false) →
    let cleared := iflag &&& ~~~((1 : Byte) <<< k)
    let ret := if s.haltBug then s.pc - 1 else s.pc
    step s =
      .next { s with
        trace := [.read 0xFFFF, .read 0xFF0F, .write 0xFF0F cleared, .write (s.sp - 2) (loByte ret),
          .write (s.sp - 1) (hiByte ret)]
        bus := (((afterPoll s).bus.write8 0xFF0F cleared).write8 (s.sp - 2) (loByte ret)).write8 (s.sp - 1)
          (hiByte ret)
        ime := false
        imePending := false
        halted := false
        haltBug := false
        sp := s.sp - 2
        pc := BitVec.ofNat 16 (0x40 + 8 * k)
        mCycles := s.mCycles + 5 }

/-- A halted step with nothing pending makes the two poll reads, takes 1 M-cycle and changes nothing else but for an EI
commit; with an interrupt pending, whatever IME is, the step is the one the core would take had it not been halted
(60_exceptions.md section 4; the spec's decisions D4 and D8). The last clause covers a step that faults too: that halted
is clear in the state such a fault leaves is the model's choice, log entry 13. -/
def Obligations.HaltedStepIdlesOrWakes : Prop :=
  ∀ s : State, s.locked = false → s.stopped = false → s.halted = true →
    (s.pending = false →
      step s = .next (({ s with
        trace := [.read 0xFFFF, .read 0xFF0F]
        bus := (afterPoll s).bus
        mCycles := s.mCycles + 1
        ime := s.ime || s.imePending
        imePending := false } : State))) ∧
      (s.pending = true → step s = step { s with halted := false })

/-- A stopped step makes no bus access and takes 1 M-cycle; whatever the draw of `stop_wake` is, it alone decides whether
the stop ends, and no interrupt is dispatched (60_exceptions.md section 4; the spec's decisions D8, D9 and D25). -/
def Obligations.StoppedStepOnlyDraws : Prop :=
  ∀ s : State, s.locked = false → s.stopped = true →
    step s = .next { s with
      trace := []
      stopped := !Config.stopWake s.stopDraws
      stopDraws := s.stopDraws + 1
      mCycles := s.mCycles + 1
      ime := s.ime || s.imePending
      imePending := false }

/-- A fault leaves the core locked with the fault's opcode and address, m_cycles not advanced and the bus changed by its reads
alone, and from then on every step makes no access, changes nothing and returns the same fault (60_exceptions.md section 4; the
spec's decisions D11 and D27). -/
def Obligations.FaultLocksTheCoreForGood : Prop :=
  ∀ (s t : State) (op : Byte) (addr : Word), step s = .fault (.unknownOpcode op addr t) →
    t.locked = true ∧ t.lockedOpcode = op ∧ t.lockedAddr = addr ∧ t.mCycles = s.mCycles ∧
      t.bus = t.trace.foldl Bus.after s.bus ∧ (∀ c ∈ t.trace, ∃ a, c = .read a) ∧
      step t = .fault (.unknownOpcode op addr { t with trace := [] })

/-- No step is refused, and a step faults exactly when the core is locked or the step executes an undefined byte under Lock;
in every other state it goes on (60_exceptions.md section 1). -/
def Obligations.OnlyUndefinedBytesFault : Prop :=
  ∀ s : State,
    let faults := s.locked = true ∨
      (Executes s ∧ s.unknownOpcodePolicy = .lock ∧ undefinedBytes.contains ((afterPoll s).peek s.pc) = true)
    (faults → ∃ r, step s = .fault r) ∧ (¬faults → ∃ t, step s = .next t)

/-- The EI delay: a step that executes EI leaves IME as it is and sets the latch; the next step that goes on and does not
execute DI ends with IME = 1 and the latch clear; DI cancels the latch (60_exceptions.md section 3, 70 section 2; the
spec's decisions D6, D7 and D8). -/
def Obligations.EiTakesEffectOneStepLate : Prop :=
  ∀ s t : State, step s = .next t →
    (Executes s → s.imePending = false → (afterPoll s).fetchInstr = .ei → t.ime = s.ime ∧ t.imePending = true) ∧
      (s.ime = false → s.imePending = true → ¬(Executes s ∧ (afterPoll s).fetchInstr = .di) →
        t.ime = true ∧ t.imePending = false) ∧
      (Executes s → (afterPoll s).fetchInstr = .di → t.ime = false ∧ t.imePending = false)

/-- IME rises only by the commit of a latch set before the step or by RETI, and falls only by a dispatch or DI
(10_state.md section 4). -/
def Obligations.OnlyEiAndRetiRaiseIme : Prop :=
  ∀ s t : State, step s = .next t →
    (s.ime = false → t.ime = true → s.imePending = true ∨ (Executes s ∧ (afterPoll s).fetchInstr = .reti)) ∧
      (s.ime = true → t.ime = false → s.pending = true ∨ (Executes s ∧ (afterPoll s).fetchInstr = .di))

/-! ## Invariants and reset -/

/-- Every step keeps the invariant, both in the state it goes on to and in the state a fault leaves behind. -/
def Obligations.EveryStepKeepsInvariant : Prop :=
  ∀ s : State, s.Inv →
    (∀ t, step s = .next t → t.Inv) ∧ ∀ op addr t, step s = .fault (.unknownOpcode op addr t) → t.Inv

/-- The state after reset meets the invariant, and so does every state that `reset` makes of one whose bus is canonical. -/
def Obligations.ResetMeetsInvariant : Prop :=
  State.reset.Inv ∧ ∀ (s : State) (p : ResetProfile), s.bus.wf → (s.resetTo p).Inv

/-- The two reset profiles set the registers the spec lists, clear the control bits, the locked record and m_cycles, and leave
the bus and the policies (10_state.md section 5, 70 section 1; the values not listed by the document are the spec's decision
D14; that State.reset is the PostBoot profile is the model's choice, log entry 3). -/
def Obligations.ResetProfileValues : Prop :=
  (∀ (s : State) (p : ResetProfile),
    let t := s.resetTo p
    (t.ime, t.imePending, t.halted, t.stopped, t.haltBug, t.locked) = (false, false, false, false, false, false) ∧
      (t.lockedOpcode, t.lockedAddr, t.mCycles) = (0, 0, 0) ∧
      (t.bus, t.unknownOpcodePolicy, t.stopPolicy) = (s.bus, s.unknownOpcodePolicy, s.stopPolicy) ∧
      (p = .cold → (t.af, t.bc, t.de, t.hl, t.sp, t.pc) = (0, 0, 0, 0, 0, 0)) ∧
      (p = .postBoot →
        (t.af, t.bc, t.de, t.hl, t.sp, t.pc) = (0x01B0, 0x0013, 0x00D8, 0x014D, 0xFFFE, 0x0100))) ∧
    State.reset = (State.new (.ram []) .lock .stopState).resetTo .postBoot

/-! ## Frames -/

/-- Every bus: a well-formed instruction changes the bus by its bus calls alone, in the order the trace has them, and writes
only at the addresses its rule stores to (00_scope.md R11, 20_memory.md R56). RAM: so no byte outside them changes
(R59). -/
def Obligations.MemoryFrame : Prop :=
  ∀ (i : Instr) (s t : State), i.wellFormed = true → exec i s = .next t →
    (∃ cs : List BusCall, t.trace = s.trace ++ cs ∧ t.bus = cs.foldl Bus.after s.bus ∧
      ∀ a v, BusCall.write a v ∈ cs → a ∈ i.storeAddrs s) ∧
      (s.bus.isRam = true → ∀ addr, addr ∉ i.storeAddrs s → t.peek addr = s.peek addr)

/-- No well-formed instruction changes an 8-bit register but its destination registers, or SP but where its rule writes
SP; and the operand tables r, rp and rp2 name the registers the spec's tables list (30_encoding.md R72 to R74). -/
def Obligations.RegisterFrame : Prop :=
  (∀ (i : Instr) (s t : State), i.wellFormed = true → exec i s = .next t →
    (∀ r, r ≠ .hlMem → r ∉ i.destRegs → t.getR r = s.getR r) ∧ (i.writesSp = false → t.sp = s.sp)) ∧
    ∀ s : State,
      [R8.b, .c, .d, .e, .h, .l, .hlMem, .a].map s.getR =
          [s.b, s.c, s.d, s.e, s.h, s.l, s.peek (s.h ++ s.l), s.a] ∧
        [R8.b, .c, .d, .e, .h, .l, .hlMem, .a].map r8Index = [0, 1, 2, 3, 4, 5, 6, 7] ∧
        [Rp.bc, .de, .hl, .sp].map s.getRp = [s.b ++ s.c, s.d ++ s.e, s.h ++ s.l, s.sp] ∧
        [Rp.bc, .de, .hl, .sp].map rpIndex = [0, 1, 2, 3] ∧
        [Rp2.bc, .de, .hl, .af].map s.getRp2 = [s.b ++ s.c, s.d ++ s.e, s.h ++ s.l, s.a ++ (s.f &&& 0xF0)] ∧
        [Rp2.bc, .de, .hl, .af].map rp2Index = [0, 1, 2, 3] ∧
        [Cc.nz, .z, .nc, .c].map ccIndex = [0, 1, 2, 3]

/-- Every well-formed instruction obeys its flag line: `-` unchanged, `0` cleared, `1` set; and a row with no entry but `-`
leaves all of F unchanged; F's low nibble stays zero (10_state.md R22, R27 and `flags` of spec/opcode_table.json). -/
def Obligations.FlagFrame : Prop :=
  ∀ (i : Instr) (s t : State), i.wellFormed = true → exec i s = .next t →
    i.flagLine.z.allows s.flagZ t.flagZ ∧ i.flagLine.n.allows s.flagN t.flagN ∧
      i.flagLine.h.allows s.flagH t.flagH ∧ i.flagLine.c.allows s.flagC t.flagC ∧
      (i.flagLine = ⟨.keep, .keep, .keep, .keep⟩ → t.f = s.f) ∧ (s.f &&& 0x0F = 0 → t.f &&& 0x0F = 0)

/-- The control state: only DI and RETI write IME, only DI and EI the latch, only HALT and STOP set halted or stopped, the
fetch clears halt_bug and only HALT sets it; nothing writes the locked record, the policies or the draw counter; and an
instruction that does not jump leaves PC after its last byte. -/
def Obligations.ControlFrame : Prop :=
  ∀ (i : Instr) (s t : State), i.wellFormed = true → exec i s = .next t →
    (i ≠ .di → i ≠ .reti → t.ime = s.ime) ∧ (i ≠ .di → i ≠ .ei → t.imePending = s.imePending) ∧
      (i ≠ .halt → ¬(i = .stop ∧ s.stopPolicy = .asHalt) → t.halted = s.halted) ∧
      (¬(i = .stop ∧ s.stopPolicy = .stopState) → t.stopped = s.stopped) ∧
      (i ≠ .halt → t.haltBug = false) ∧
      (t.locked, t.lockedOpcode, t.lockedAddr, t.unknownOpcodePolicy, t.stopPolicy, t.stopDraws) =
        (s.locked, s.lockedOpcode, s.lockedAddr, s.unknownOpcodePolicy, s.stopPolicy, s.stopDraws) ∧
      (i.setsPc = false →
        t.pc = (if s.haltBug then s.pc else s.pc + 1) + BitVec.ofNat 16 ((encode i).length - 1))

/-- Every well-formed instruction that goes on takes the M-cycles of its row, and every step that goes on takes 1 to 6, added
to m_cycles modulo 2^64 (60_exceptions.md R313 and `cycles` of spec/opcode_table.json). -/
def Obligations.CyclesOfEveryInstructionAndStep : Prop :=
  (∀ (i : Instr) (s t : State), i.wellFormed = true → exec i s = .next t →
    t.mCycles = s.mCycles + BitVec.ofNat 64 (i.mCycles s)) ∧
    ∀ s t : State, step s = .next t → 1 ≤ cyclesOf s t ∧ cyclesOf s t ≤ 6

/-! ## Registers, memory and the host -/

/-- The pair views (10_state.md R21): each pair reads as its two registers, high register first; a write of a pair stores the
high byte in the high register and the low byte in the low one, F through its mask; and a write through either name is seen
by the next read through the other. F's layout (R25): a flag is read from its bit, Z 7, N 6, H 5, C 4; the four flags written
are `Z<<7 | N<<6 | H<<5 | C<<4`; and a read or a write of F has bits 3..0 zero. -/
def Obligations.PairViewsAliasTheHalves : Prop :=
  (∀ (s : State) (z n h c : Bool),
    (s.flagZ = s.f.getLsbD 7 ∧ s.flagN = s.f.getLsbD 6 ∧ s.flagH = s.f.getLsbD 5 ∧ s.flagC = s.f.getLsbD 4) ∧
      s.setFlags z n h c = { s with f := packF z n h c } ∧
      packF z n h c = BitVec.ofNat 8 (128 * z.toNat + 64 * n.toNat + 32 * h.toNat + 16 * c.toNat) ∧
      s.getF &&& 0x0F = 0 ∧ ∀ x : Byte, (s.setF x).f = x &&& 0xF0) ∧
  ∀ (s : State) (v : Word),
    (s.af = s.a ++ s.getF ∧ s.bc = s.b ++ s.c ∧ s.de = s.d ++ s.e ∧ s.hl = s.h ++ s.l) ∧
      s.setBc v = { s with b := v.extractLsb' 8 8, c := v.extractLsb' 0 8 } ∧
      s.setDe v = { s with d := v.extractLsb' 8 8, e := v.extractLsb' 0 8 } ∧
      s.setHl v = { s with h := v.extractLsb' 8 8, l := v.extractLsb' 0 8 } ∧
      s.setAf v = { s with a := v.extractLsb' 8 8, f := v.extractLsb' 0 8 &&& 0xF0 } ∧
      (s.setAf v).af = v &&& 0xFFF0 ∧
      (∀ p q : Rp, (s.setRp p v).getRp q = if p = q then v else s.getRp q) ∧
      ∀ x : Byte,
        (s.setR .b x).bc = x ++ s.c ∧ (s.setR .c x).bc = s.b ++ x ∧ (s.setR .d x).de = x ++ s.e ∧
          (s.setR .e x).de = s.d ++ x ∧ (s.setR .h x).hl = x ++ s.l ∧ (s.setR .l x).hl = s.h ++ x ∧
          (s.setR .a x).af = x ++ s.getF ∧ (s.setF x).af = s.a ++ (x &&& 0xF0)

/-- A 16-bit store is two bus calls, the low byte at a and then the high byte at a+1, modulo 65536 (20_memory.md sections 2
and 3; the wrap is the spec's decision D1), on every bus. On RAM (20_memory.md R59; that a bus is RAM is the model's choice,
log entry 1) the bytes and the word read back, and every other byte is unchanged. -/
def Obligations.WordStoreIsTwoBytesLowFirst : Prop :=
  ∀ (s : State) (addr v : Word),
    let t := s.busWrite16 addr v
    t.bus = (s.bus.write8 addr (loByte v)).write8 (addr + 1) (hiByte v) ∧
      t.trace = s.trace ++ [.write addr (loByte v), .write (addr + 1) (hiByte v)] ∧
      (s.bus.isRam = true →
        t.peek addr = loByte v ∧ t.peek (addr + 1) = hiByte v ∧ t.peek16 addr = v ∧
          ∀ x, x ≠ addr → x ≠ addr + 1 → t.peek x = s.peek x)

/-- On RAM, `PUSH rp2` and then `POP rp2` of the same pair restores the pair, SP, and every other register (41_load16.md R135;
the test bus of 95_test_vectors.md, that a bus is RAM being the model's choice, log entry 1). On another bus the popped bytes
are what the bus returns. -/
def Obligations.PushThenPopRestores : Prop :=
  ∀ (p : Rp2) (s : State), s.bus.isRam = true → s.f &&& 0x0F = 0 →
    ∃ t u, exec (decodePush p) s = .next t ∧ exec (decodePop p) t = .next u ∧
      u.getRp2 p = s.getRp2 p ∧ u.sp = s.sp ∧ u.f = s.f ∧ ∀ r, r ≠ .hlMem → u.getR r = s.getR r

/-- `request_interrupt(k)`, for the five sources, reads IF through the bus and writes it back with bit k set, and changes
nothing else of the core; any other k is refused. On RAM (log entry 1) that sets bit k of IF and no other bit or byte, and the
next poll sees the source if IE enables it (60_exceptions.md section 6; the read and write back and the refusal are the spec's
decision D26). -/
def Obligations.RequestInterruptSetsOneBit : Prop :=
  ∀ (s : State) (k : Nat),
    (k < 5 →
      ∃ t v, s.requestInterrupt k = .next t ∧ (∀ j < 8, v.getLsbD j = ((s.peek 0xFF0F).getLsbD j || decide (j = k))) ∧
        t = { s with bus := (s.bus.read8 0xFF0F).2.write8 0xFF0F v } ∧
        (s.bus.isRam = true →
          t.peek 0xFF0F = v ∧ (∀ x, x ≠ 0xFF0F → t.peek x = s.peek x) ∧
            (s.ie.getLsbD k = true → t.pending = true))) ∧
      (5 ≤ k → s.requestInterrupt k = .refused (.badInterruptSource k))

/-- The persisted record is 24 bytes; restoring it gives back every register, the four control bits and m_cycles, with
halt_bug and the locked record cleared and the bus left as it is; a record of another length is refused (10_state.md
section 6; the restore is the spec's decision D16). That a state saved with both halted and stopped set, which
State.Inv rules out, gets both bits back is the model's choice, log entry 14; so is that a locked core restored into, or saved, gives a core
that is not locked, log entry 15; that another length is refused is log entry 10. -/
def Obligations.PersistedRecordRoundTrip : Prop :=
  (∀ s : State, s.save.length = 24) ∧
    (∀ s s0 : State, s.f &&& 0x0F = 0 →
      s0.restore s.save = .next { s with
        haltBug := false
        locked := false
        lockedOpcode := 0
        lockedAddr := 0
        trace := []
        bus := s0.bus
        unknownOpcodePolicy := s0.unknownOpcodePolicy
        stopPolicy := s0.stopPolicy
        stopDraws := s0.stopDraws }) ∧
    ∀ (s0 : State) (record : List Byte), record.length ≠ 24 →
      s0.restore record = .refused (.badRecord record.length)
end

