-- ==== Sys2Proof/Laws/State.lean ====
section
/-! SUPPORT. The fields of the state after each of its updates: one lemma per field per update. -/

namespace Sys2Proof.Machine

open Sys2Proof

variable (s : State)

/-! ## busCall -/

@[simp] theorem State.busCall_a (c : BusCall) : (s.busCall c).a = s.a := rfl
@[simp] theorem State.busCall_f (c : BusCall) : (s.busCall c).f = s.f := rfl
@[simp] theorem State.busCall_b (c : BusCall) : (s.busCall c).b = s.b := rfl
@[simp] theorem State.busCall_c (c : BusCall) : (s.busCall c).c = s.c := rfl
@[simp] theorem State.busCall_d (c : BusCall) : (s.busCall c).d = s.d := rfl
@[simp] theorem State.busCall_e (c : BusCall) : (s.busCall c).e = s.e := rfl
@[simp] theorem State.busCall_h (c : BusCall) : (s.busCall c).h = s.h := rfl
@[simp] theorem State.busCall_l (c : BusCall) : (s.busCall c).l = s.l := rfl
@[simp] theorem State.busCall_sp (c : BusCall) : (s.busCall c).sp = s.sp := rfl
@[simp] theorem State.busCall_pc (c : BusCall) : (s.busCall c).pc = s.pc := rfl
@[simp] theorem State.busCall_ime (c : BusCall) : (s.busCall c).ime = s.ime := rfl
@[simp] theorem State.busCall_imePending (c : BusCall) : (s.busCall c).imePending = s.imePending := rfl
@[simp] theorem State.busCall_halted (c : BusCall) : (s.busCall c).halted = s.halted := rfl
@[simp] theorem State.busCall_stopped (c : BusCall) : (s.busCall c).stopped = s.stopped := rfl
@[simp] theorem State.busCall_haltBug (c : BusCall) : (s.busCall c).haltBug = s.haltBug := rfl
@[simp] theorem State.busCall_locked (c : BusCall) : (s.busCall c).locked = s.locked := rfl
@[simp] theorem State.busCall_lockedOpcode (c : BusCall) : (s.busCall c).lockedOpcode = s.lockedOpcode := rfl
@[simp] theorem State.busCall_lockedAddr (c : BusCall) : (s.busCall c).lockedAddr = s.lockedAddr := rfl
@[simp] theorem State.busCall_mCycles (c : BusCall) : (s.busCall c).mCycles = s.mCycles := rfl
@[simp] theorem State.busCall_bus (c : BusCall) : (s.busCall c).bus = s.bus.after c := rfl
@[simp] theorem State.busCall_unknownOpcodePolicy (c : BusCall) : (s.busCall c).unknownOpcodePolicy = s.unknownOpcodePolicy := rfl
@[simp] theorem State.busCall_stopPolicy (c : BusCall) : (s.busCall c).stopPolicy = s.stopPolicy := rfl
@[simp] theorem State.busCall_stopDraws (c : BusCall) : (s.busCall c).stopDraws = s.stopDraws := rfl
@[simp] theorem State.busCall_trace (c : BusCall) : (s.busCall c).trace = s.trace ++ [c] := rfl

/-! ## noteRead -/

@[simp] theorem State.noteRead_a (x : Word) : (s.noteRead x).a = s.a := rfl
@[simp] theorem State.noteRead_f (x : Word) : (s.noteRead x).f = s.f := rfl
@[simp] theorem State.noteRead_b (x : Word) : (s.noteRead x).b = s.b := rfl
@[simp] theorem State.noteRead_c (x : Word) : (s.noteRead x).c = s.c := rfl
@[simp] theorem State.noteRead_d (x : Word) : (s.noteRead x).d = s.d := rfl
@[simp] theorem State.noteRead_e (x : Word) : (s.noteRead x).e = s.e := rfl
@[simp] theorem State.noteRead_h (x : Word) : (s.noteRead x).h = s.h := rfl
@[simp] theorem State.noteRead_l (x : Word) : (s.noteRead x).l = s.l := rfl
@[simp] theorem State.noteRead_sp (x : Word) : (s.noteRead x).sp = s.sp := rfl
@[simp] theorem State.noteRead_pc (x : Word) : (s.noteRead x).pc = s.pc := rfl
@[simp] theorem State.noteRead_ime (x : Word) : (s.noteRead x).ime = s.ime := rfl
@[simp] theorem State.noteRead_imePending (x : Word) : (s.noteRead x).imePending = s.imePending := rfl
@[simp] theorem State.noteRead_halted (x : Word) : (s.noteRead x).halted = s.halted := rfl
@[simp] theorem State.noteRead_stopped (x : Word) : (s.noteRead x).stopped = s.stopped := rfl
@[simp] theorem State.noteRead_haltBug (x : Word) : (s.noteRead x).haltBug = s.haltBug := rfl
@[simp] theorem State.noteRead_locked (x : Word) : (s.noteRead x).locked = s.locked := rfl
@[simp] theorem State.noteRead_lockedOpcode (x : Word) : (s.noteRead x).lockedOpcode = s.lockedOpcode := rfl
@[simp] theorem State.noteRead_lockedAddr (x : Word) : (s.noteRead x).lockedAddr = s.lockedAddr := rfl
@[simp] theorem State.noteRead_mCycles (x : Word) : (s.noteRead x).mCycles = s.mCycles := rfl
@[simp] theorem State.noteRead_bus (x : Word) : (s.noteRead x).bus = (s.bus.read8 x).2 := rfl
@[simp] theorem State.noteRead_unknownOpcodePolicy (x : Word) : (s.noteRead x).unknownOpcodePolicy = s.unknownOpcodePolicy := rfl
@[simp] theorem State.noteRead_stopPolicy (x : Word) : (s.noteRead x).stopPolicy = s.stopPolicy := rfl
@[simp] theorem State.noteRead_stopDraws (x : Word) : (s.noteRead x).stopDraws = s.stopDraws := rfl
@[simp] theorem State.noteRead_trace (x : Word) : (s.noteRead x).trace = s.trace ++ [.read x] := rfl

/-! ## busWrite -/

@[simp] theorem State.busWrite_a (x : Word) (v : Byte) : (s.busWrite x v).a = s.a := rfl
@[simp] theorem State.busWrite_f (x : Word) (v : Byte) : (s.busWrite x v).f = s.f := rfl
@[simp] theorem State.busWrite_b (x : Word) (v : Byte) : (s.busWrite x v).b = s.b := rfl
@[simp] theorem State.busWrite_c (x : Word) (v : Byte) : (s.busWrite x v).c = s.c := rfl
@[simp] theorem State.busWrite_d (x : Word) (v : Byte) : (s.busWrite x v).d = s.d := rfl
@[simp] theorem State.busWrite_e (x : Word) (v : Byte) : (s.busWrite x v).e = s.e := rfl
@[simp] theorem State.busWrite_h (x : Word) (v : Byte) : (s.busWrite x v).h = s.h := rfl
@[simp] theorem State.busWrite_l (x : Word) (v : Byte) : (s.busWrite x v).l = s.l := rfl
@[simp] theorem State.busWrite_sp (x : Word) (v : Byte) : (s.busWrite x v).sp = s.sp := rfl
@[simp] theorem State.busWrite_pc (x : Word) (v : Byte) : (s.busWrite x v).pc = s.pc := rfl
@[simp] theorem State.busWrite_ime (x : Word) (v : Byte) : (s.busWrite x v).ime = s.ime := rfl
@[simp] theorem State.busWrite_imePending (x : Word) (v : Byte) : (s.busWrite x v).imePending = s.imePending := rfl
@[simp] theorem State.busWrite_halted (x : Word) (v : Byte) : (s.busWrite x v).halted = s.halted := rfl
@[simp] theorem State.busWrite_stopped (x : Word) (v : Byte) : (s.busWrite x v).stopped = s.stopped := rfl
@[simp] theorem State.busWrite_haltBug (x : Word) (v : Byte) : (s.busWrite x v).haltBug = s.haltBug := rfl
@[simp] theorem State.busWrite_locked (x : Word) (v : Byte) : (s.busWrite x v).locked = s.locked := rfl
@[simp] theorem State.busWrite_lockedOpcode (x : Word) (v : Byte) : (s.busWrite x v).lockedOpcode = s.lockedOpcode := rfl
@[simp] theorem State.busWrite_lockedAddr (x : Word) (v : Byte) : (s.busWrite x v).lockedAddr = s.lockedAddr := rfl
@[simp] theorem State.busWrite_mCycles (x : Word) (v : Byte) : (s.busWrite x v).mCycles = s.mCycles := rfl
@[simp] theorem State.busWrite_bus (x : Word) (v : Byte) : (s.busWrite x v).bus = s.bus.write8 x v := rfl
@[simp] theorem State.busWrite_unknownOpcodePolicy (x : Word) (v : Byte) : (s.busWrite x v).unknownOpcodePolicy = s.unknownOpcodePolicy := rfl
@[simp] theorem State.busWrite_stopPolicy (x : Word) (v : Byte) : (s.busWrite x v).stopPolicy = s.stopPolicy := rfl
@[simp] theorem State.busWrite_stopDraws (x : Word) (v : Byte) : (s.busWrite x v).stopDraws = s.stopDraws := rfl
@[simp] theorem State.busWrite_trace (x : Word) (v : Byte) : (s.busWrite x v).trace = s.trace ++ [.write x v] := rfl

/-! ## noteRead16 -/

@[simp] theorem State.noteRead16_a (x : Word) : (s.noteRead16 x).a = s.a := rfl
@[simp] theorem State.noteRead16_f (x : Word) : (s.noteRead16 x).f = s.f := rfl
@[simp] theorem State.noteRead16_b (x : Word) : (s.noteRead16 x).b = s.b := rfl
@[simp] theorem State.noteRead16_c (x : Word) : (s.noteRead16 x).c = s.c := rfl
@[simp] theorem State.noteRead16_d (x : Word) : (s.noteRead16 x).d = s.d := rfl
@[simp] theorem State.noteRead16_e (x : Word) : (s.noteRead16 x).e = s.e := rfl
@[simp] theorem State.noteRead16_h (x : Word) : (s.noteRead16 x).h = s.h := rfl
@[simp] theorem State.noteRead16_l (x : Word) : (s.noteRead16 x).l = s.l := rfl
@[simp] theorem State.noteRead16_sp (x : Word) : (s.noteRead16 x).sp = s.sp := rfl
@[simp] theorem State.noteRead16_pc (x : Word) : (s.noteRead16 x).pc = s.pc := rfl
@[simp] theorem State.noteRead16_ime (x : Word) : (s.noteRead16 x).ime = s.ime := rfl
@[simp] theorem State.noteRead16_imePending (x : Word) : (s.noteRead16 x).imePending = s.imePending := rfl
@[simp] theorem State.noteRead16_halted (x : Word) : (s.noteRead16 x).halted = s.halted := rfl
@[simp] theorem State.noteRead16_stopped (x : Word) : (s.noteRead16 x).stopped = s.stopped := rfl
@[simp] theorem State.noteRead16_haltBug (x : Word) : (s.noteRead16 x).haltBug = s.haltBug := rfl
@[simp] theorem State.noteRead16_locked (x : Word) : (s.noteRead16 x).locked = s.locked := rfl
@[simp] theorem State.noteRead16_lockedOpcode (x : Word) : (s.noteRead16 x).lockedOpcode = s.lockedOpcode := rfl
@[simp] theorem State.noteRead16_lockedAddr (x : Word) : (s.noteRead16 x).lockedAddr = s.lockedAddr := rfl
@[simp] theorem State.noteRead16_mCycles (x : Word) : (s.noteRead16 x).mCycles = s.mCycles := rfl
@[simp] theorem State.noteRead16_bus (x : Word) : (s.noteRead16 x).bus = ((s.bus.read8 x).2.read8 (x + 1)).2 := rfl
@[simp] theorem State.noteRead16_unknownOpcodePolicy (x : Word) : (s.noteRead16 x).unknownOpcodePolicy = s.unknownOpcodePolicy := rfl
@[simp] theorem State.noteRead16_stopPolicy (x : Word) : (s.noteRead16 x).stopPolicy = s.stopPolicy := rfl
@[simp] theorem State.noteRead16_stopDraws (x : Word) : (s.noteRead16 x).stopDraws = s.stopDraws := rfl
@[simp] theorem State.noteRead16_trace (x : Word) : (s.noteRead16 x).trace = s.trace ++ [.read x] ++ [.read (x + 1)] := rfl

/-! ## busWrite16 -/

@[simp] theorem State.busWrite16_a (x v : Word) : (s.busWrite16 x v).a = s.a := rfl
@[simp] theorem State.busWrite16_f (x v : Word) : (s.busWrite16 x v).f = s.f := rfl
@[simp] theorem State.busWrite16_b (x v : Word) : (s.busWrite16 x v).b = s.b := rfl
@[simp] theorem State.busWrite16_c (x v : Word) : (s.busWrite16 x v).c = s.c := rfl
@[simp] theorem State.busWrite16_d (x v : Word) : (s.busWrite16 x v).d = s.d := rfl
@[simp] theorem State.busWrite16_e (x v : Word) : (s.busWrite16 x v).e = s.e := rfl
@[simp] theorem State.busWrite16_h (x v : Word) : (s.busWrite16 x v).h = s.h := rfl
@[simp] theorem State.busWrite16_l (x v : Word) : (s.busWrite16 x v).l = s.l := rfl
@[simp] theorem State.busWrite16_sp (x v : Word) : (s.busWrite16 x v).sp = s.sp := rfl
@[simp] theorem State.busWrite16_pc (x v : Word) : (s.busWrite16 x v).pc = s.pc := rfl
@[simp] theorem State.busWrite16_ime (x v : Word) : (s.busWrite16 x v).ime = s.ime := rfl
@[simp] theorem State.busWrite16_imePending (x v : Word) : (s.busWrite16 x v).imePending = s.imePending := rfl
@[simp] theorem State.busWrite16_halted (x v : Word) : (s.busWrite16 x v).halted = s.halted := rfl
@[simp] theorem State.busWrite16_stopped (x v : Word) : (s.busWrite16 x v).stopped = s.stopped := rfl
@[simp] theorem State.busWrite16_haltBug (x v : Word) : (s.busWrite16 x v).haltBug = s.haltBug := rfl
@[simp] theorem State.busWrite16_locked (x v : Word) : (s.busWrite16 x v).locked = s.locked := rfl
@[simp] theorem State.busWrite16_lockedOpcode (x v : Word) : (s.busWrite16 x v).lockedOpcode = s.lockedOpcode := rfl
@[simp] theorem State.busWrite16_lockedAddr (x v : Word) : (s.busWrite16 x v).lockedAddr = s.lockedAddr := rfl
@[simp] theorem State.busWrite16_mCycles (x v : Word) : (s.busWrite16 x v).mCycles = s.mCycles := rfl
@[simp] theorem State.busWrite16_bus (x v : Word) : (s.busWrite16 x v).bus = (s.bus.write8 x (loByte v)).write8 (x + 1) (hiByte v) := rfl
@[simp] theorem State.busWrite16_unknownOpcodePolicy (x v : Word) : (s.busWrite16 x v).unknownOpcodePolicy = s.unknownOpcodePolicy := rfl
@[simp] theorem State.busWrite16_stopPolicy (x v : Word) : (s.busWrite16 x v).stopPolicy = s.stopPolicy := rfl
@[simp] theorem State.busWrite16_stopDraws (x v : Word) : (s.busWrite16 x v).stopDraws = s.stopDraws := rfl
@[simp] theorem State.busWrite16_trace (x v : Word) : (s.busWrite16 x v).trace = s.trace ++ [.write x (loByte v)] ++ [.write (x + 1) (hiByte v)] := rfl

/-! ## setF -/

@[simp] theorem State.setF_a (v : Byte) : (s.setF v).a = s.a := rfl
@[simp] theorem State.setF_f (v : Byte) : (s.setF v).f = maskF v := rfl
@[simp] theorem State.setF_b (v : Byte) : (s.setF v).b = s.b := rfl
@[simp] theorem State.setF_c (v : Byte) : (s.setF v).c = s.c := rfl
@[simp] theorem State.setF_d (v : Byte) : (s.setF v).d = s.d := rfl
@[simp] theorem State.setF_e (v : Byte) : (s.setF v).e = s.e := rfl
@[simp] theorem State.setF_h (v : Byte) : (s.setF v).h = s.h := rfl
@[simp] theorem State.setF_l (v : Byte) : (s.setF v).l = s.l := rfl
@[simp] theorem State.setF_sp (v : Byte) : (s.setF v).sp = s.sp := rfl
@[simp] theorem State.setF_pc (v : Byte) : (s.setF v).pc = s.pc := rfl
@[simp] theorem State.setF_ime (v : Byte) : (s.setF v).ime = s.ime := rfl
@[simp] theorem State.setF_imePending (v : Byte) : (s.setF v).imePending = s.imePending := rfl
@[simp] theorem State.setF_halted (v : Byte) : (s.setF v).halted = s.halted := rfl
@[simp] theorem State.setF_stopped (v : Byte) : (s.setF v).stopped = s.stopped := rfl
@[simp] theorem State.setF_haltBug (v : Byte) : (s.setF v).haltBug = s.haltBug := rfl
@[simp] theorem State.setF_locked (v : Byte) : (s.setF v).locked = s.locked := rfl
@[simp] theorem State.setF_lockedOpcode (v : Byte) : (s.setF v).lockedOpcode = s.lockedOpcode := rfl
@[simp] theorem State.setF_lockedAddr (v : Byte) : (s.setF v).lockedAddr = s.lockedAddr := rfl
@[simp] theorem State.setF_mCycles (v : Byte) : (s.setF v).mCycles = s.mCycles := rfl
@[simp] theorem State.setF_bus (v : Byte) : (s.setF v).bus = s.bus := rfl
@[simp] theorem State.setF_unknownOpcodePolicy (v : Byte) : (s.setF v).unknownOpcodePolicy = s.unknownOpcodePolicy := rfl
@[simp] theorem State.setF_stopPolicy (v : Byte) : (s.setF v).stopPolicy = s.stopPolicy := rfl
@[simp] theorem State.setF_stopDraws (v : Byte) : (s.setF v).stopDraws = s.stopDraws := rfl
@[simp] theorem State.setF_trace (v : Byte) : (s.setF v).trace = s.trace := rfl

/-! ## setFlags -/

@[simp] theorem State.setFlags_a (z n h c : Bool) : (s.setFlags z n h c).a = s.a := rfl
@[simp] theorem State.setFlags_f (z n h c : Bool) : (s.setFlags z n h c).f = packF z n h c := rfl
@[simp] theorem State.setFlags_b (z n h c : Bool) : (s.setFlags z n h c).b = s.b := rfl
@[simp] theorem State.setFlags_c (z n h c : Bool) : (s.setFlags z n h c).c = s.c := rfl
@[simp] theorem State.setFlags_d (z n h c : Bool) : (s.setFlags z n h c).d = s.d := rfl
@[simp] theorem State.setFlags_e (z n h c : Bool) : (s.setFlags z n h c).e = s.e := rfl
@[simp] theorem State.setFlags_h (z n h c : Bool) : (s.setFlags z n h c).h = s.h := rfl
@[simp] theorem State.setFlags_l (z n h c : Bool) : (s.setFlags z n h c).l = s.l := rfl
@[simp] theorem State.setFlags_sp (z n h c : Bool) : (s.setFlags z n h c).sp = s.sp := rfl
@[simp] theorem State.setFlags_pc (z n h c : Bool) : (s.setFlags z n h c).pc = s.pc := rfl
@[simp] theorem State.setFlags_ime (z n h c : Bool) : (s.setFlags z n h c).ime = s.ime := rfl
@[simp] theorem State.setFlags_imePending (z n h c : Bool) : (s.setFlags z n h c).imePending = s.imePending := rfl
@[simp] theorem State.setFlags_halted (z n h c : Bool) : (s.setFlags z n h c).halted = s.halted := rfl
@[simp] theorem State.setFlags_stopped (z n h c : Bool) : (s.setFlags z n h c).stopped = s.stopped := rfl
@[simp] theorem State.setFlags_haltBug (z n h c : Bool) : (s.setFlags z n h c).haltBug = s.haltBug := rfl
@[simp] theorem State.setFlags_locked (z n h c : Bool) : (s.setFlags z n h c).locked = s.locked := rfl
@[simp] theorem State.setFlags_lockedOpcode (z n h c : Bool) : (s.setFlags z n h c).lockedOpcode = s.lockedOpcode := rfl
@[simp] theorem State.setFlags_lockedAddr (z n h c : Bool) : (s.setFlags z n h c).lockedAddr = s.lockedAddr := rfl
@[simp] theorem State.setFlags_mCycles (z n h c : Bool) : (s.setFlags z n h c).mCycles = s.mCycles := rfl
@[simp] theorem State.setFlags_bus (z n h c : Bool) : (s.setFlags z n h c).bus = s.bus := rfl
@[simp] theorem State.setFlags_unknownOpcodePolicy (z n h c : Bool) : (s.setFlags z n h c).unknownOpcodePolicy = s.unknownOpcodePolicy := rfl
@[simp] theorem State.setFlags_stopPolicy (z n h c : Bool) : (s.setFlags z n h c).stopPolicy = s.stopPolicy := rfl
@[simp] theorem State.setFlags_stopDraws (z n h c : Bool) : (s.setFlags z n h c).stopDraws = s.stopDraws := rfl
@[simp] theorem State.setFlags_trace (z n h c : Bool) : (s.setFlags z n h c).trace = s.trace := rfl

/-! ## setBc -/

@[simp] theorem State.setBc_a (v : Word) : (s.setBc v).a = s.a := rfl
@[simp] theorem State.setBc_f (v : Word) : (s.setBc v).f = s.f := rfl
@[simp] theorem State.setBc_b (v : Word) : (s.setBc v).b = hiByte v := rfl
@[simp] theorem State.setBc_c (v : Word) : (s.setBc v).c = loByte v := rfl
@[simp] theorem State.setBc_d (v : Word) : (s.setBc v).d = s.d := rfl
@[simp] theorem State.setBc_e (v : Word) : (s.setBc v).e = s.e := rfl
@[simp] theorem State.setBc_h (v : Word) : (s.setBc v).h = s.h := rfl
@[simp] theorem State.setBc_l (v : Word) : (s.setBc v).l = s.l := rfl
@[simp] theorem State.setBc_sp (v : Word) : (s.setBc v).sp = s.sp := rfl
@[simp] theorem State.setBc_pc (v : Word) : (s.setBc v).pc = s.pc := rfl
@[simp] theorem State.setBc_ime (v : Word) : (s.setBc v).ime = s.ime := rfl
@[simp] theorem State.setBc_imePending (v : Word) : (s.setBc v).imePending = s.imePending := rfl
@[simp] theorem State.setBc_halted (v : Word) : (s.setBc v).halted = s.halted := rfl
@[simp] theorem State.setBc_stopped (v : Word) : (s.setBc v).stopped = s.stopped := rfl
@[simp] theorem State.setBc_haltBug (v : Word) : (s.setBc v).haltBug = s.haltBug := rfl
@[simp] theorem State.setBc_locked (v : Word) : (s.setBc v).locked = s.locked := rfl
@[simp] theorem State.setBc_lockedOpcode (v : Word) : (s.setBc v).lockedOpcode = s.lockedOpcode := rfl
@[simp] theorem State.setBc_lockedAddr (v : Word) : (s.setBc v).lockedAddr = s.lockedAddr := rfl
@[simp] theorem State.setBc_mCycles (v : Word) : (s.setBc v).mCycles = s.mCycles := rfl
@[simp] theorem State.setBc_bus (v : Word) : (s.setBc v).bus = s.bus := rfl
@[simp] theorem State.setBc_unknownOpcodePolicy (v : Word) : (s.setBc v).unknownOpcodePolicy = s.unknownOpcodePolicy := rfl
@[simp] theorem State.setBc_stopPolicy (v : Word) : (s.setBc v).stopPolicy = s.stopPolicy := rfl
@[simp] theorem State.setBc_stopDraws (v : Word) : (s.setBc v).stopDraws = s.stopDraws := rfl
@[simp] theorem State.setBc_trace (v : Word) : (s.setBc v).trace = s.trace := rfl

/-! ## setDe -/

@[simp] theorem State.setDe_a (v : Word) : (s.setDe v).a = s.a := rfl
@[simp] theorem State.setDe_f (v : Word) : (s.setDe v).f = s.f := rfl
@[simp] theorem State.setDe_b (v : Word) : (s.setDe v).b = s.b := rfl
@[simp] theorem State.setDe_c (v : Word) : (s.setDe v).c = s.c := rfl
@[simp] theorem State.setDe_d (v : Word) : (s.setDe v).d = hiByte v := rfl
@[simp] theorem State.setDe_e (v : Word) : (s.setDe v).e = loByte v := rfl
@[simp] theorem State.setDe_h (v : Word) : (s.setDe v).h = s.h := rfl
@[simp] theorem State.setDe_l (v : Word) : (s.setDe v).l = s.l := rfl
@[simp] theorem State.setDe_sp (v : Word) : (s.setDe v).sp = s.sp := rfl
@[simp] theorem State.setDe_pc (v : Word) : (s.setDe v).pc = s.pc := rfl
@[simp] theorem State.setDe_ime (v : Word) : (s.setDe v).ime = s.ime := rfl
@[simp] theorem State.setDe_imePending (v : Word) : (s.setDe v).imePending = s.imePending := rfl
@[simp] theorem State.setDe_halted (v : Word) : (s.setDe v).halted = s.halted := rfl
@[simp] theorem State.setDe_stopped (v : Word) : (s.setDe v).stopped = s.stopped := rfl
@[simp] theorem State.setDe_haltBug (v : Word) : (s.setDe v).haltBug = s.haltBug := rfl
@[simp] theorem State.setDe_locked (v : Word) : (s.setDe v).locked = s.locked := rfl
@[simp] theorem State.setDe_lockedOpcode (v : Word) : (s.setDe v).lockedOpcode = s.lockedOpcode := rfl
@[simp] theorem State.setDe_lockedAddr (v : Word) : (s.setDe v).lockedAddr = s.lockedAddr := rfl
@[simp] theorem State.setDe_mCycles (v : Word) : (s.setDe v).mCycles = s.mCycles := rfl
@[simp] theorem State.setDe_bus (v : Word) : (s.setDe v).bus = s.bus := rfl
@[simp] theorem State.setDe_unknownOpcodePolicy (v : Word) : (s.setDe v).unknownOpcodePolicy = s.unknownOpcodePolicy := rfl
@[simp] theorem State.setDe_stopPolicy (v : Word) : (s.setDe v).stopPolicy = s.stopPolicy := rfl
@[simp] theorem State.setDe_stopDraws (v : Word) : (s.setDe v).stopDraws = s.stopDraws := rfl
@[simp] theorem State.setDe_trace (v : Word) : (s.setDe v).trace = s.trace := rfl

/-! ## setHl -/

@[simp] theorem State.setHl_a (v : Word) : (s.setHl v).a = s.a := rfl
@[simp] theorem State.setHl_f (v : Word) : (s.setHl v).f = s.f := rfl
@[simp] theorem State.setHl_b (v : Word) : (s.setHl v).b = s.b := rfl
@[simp] theorem State.setHl_c (v : Word) : (s.setHl v).c = s.c := rfl
@[simp] theorem State.setHl_d (v : Word) : (s.setHl v).d = s.d := rfl
@[simp] theorem State.setHl_e (v : Word) : (s.setHl v).e = s.e := rfl
@[simp] theorem State.setHl_h (v : Word) : (s.setHl v).h = hiByte v := rfl
@[simp] theorem State.setHl_l (v : Word) : (s.setHl v).l = loByte v := rfl
@[simp] theorem State.setHl_sp (v : Word) : (s.setHl v).sp = s.sp := rfl
@[simp] theorem State.setHl_pc (v : Word) : (s.setHl v).pc = s.pc := rfl
@[simp] theorem State.setHl_ime (v : Word) : (s.setHl v).ime = s.ime := rfl
@[simp] theorem State.setHl_imePending (v : Word) : (s.setHl v).imePending = s.imePending := rfl
@[simp] theorem State.setHl_halted (v : Word) : (s.setHl v).halted = s.halted := rfl
@[simp] theorem State.setHl_stopped (v : Word) : (s.setHl v).stopped = s.stopped := rfl
@[simp] theorem State.setHl_haltBug (v : Word) : (s.setHl v).haltBug = s.haltBug := rfl
@[simp] theorem State.setHl_locked (v : Word) : (s.setHl v).locked = s.locked := rfl
@[simp] theorem State.setHl_lockedOpcode (v : Word) : (s.setHl v).lockedOpcode = s.lockedOpcode := rfl
@[simp] theorem State.setHl_lockedAddr (v : Word) : (s.setHl v).lockedAddr = s.lockedAddr := rfl
@[simp] theorem State.setHl_mCycles (v : Word) : (s.setHl v).mCycles = s.mCycles := rfl
@[simp] theorem State.setHl_bus (v : Word) : (s.setHl v).bus = s.bus := rfl
@[simp] theorem State.setHl_unknownOpcodePolicy (v : Word) : (s.setHl v).unknownOpcodePolicy = s.unknownOpcodePolicy := rfl
@[simp] theorem State.setHl_stopPolicy (v : Word) : (s.setHl v).stopPolicy = s.stopPolicy := rfl
@[simp] theorem State.setHl_stopDraws (v : Word) : (s.setHl v).stopDraws = s.stopDraws := rfl
@[simp] theorem State.setHl_trace (v : Word) : (s.setHl v).trace = s.trace := rfl

/-! ## setAf -/

@[simp] theorem State.setAf_a (v : Word) : (s.setAf v).a = hiByte v := rfl
@[simp] theorem State.setAf_f (v : Word) : (s.setAf v).f = maskF (loByte v) := rfl
@[simp] theorem State.setAf_b (v : Word) : (s.setAf v).b = s.b := rfl
@[simp] theorem State.setAf_c (v : Word) : (s.setAf v).c = s.c := rfl
@[simp] theorem State.setAf_d (v : Word) : (s.setAf v).d = s.d := rfl
@[simp] theorem State.setAf_e (v : Word) : (s.setAf v).e = s.e := rfl
@[simp] theorem State.setAf_h (v : Word) : (s.setAf v).h = s.h := rfl
@[simp] theorem State.setAf_l (v : Word) : (s.setAf v).l = s.l := rfl
@[simp] theorem State.setAf_sp (v : Word) : (s.setAf v).sp = s.sp := rfl
@[simp] theorem State.setAf_pc (v : Word) : (s.setAf v).pc = s.pc := rfl
@[simp] theorem State.setAf_ime (v : Word) : (s.setAf v).ime = s.ime := rfl
@[simp] theorem State.setAf_imePending (v : Word) : (s.setAf v).imePending = s.imePending := rfl
@[simp] theorem State.setAf_halted (v : Word) : (s.setAf v).halted = s.halted := rfl
@[simp] theorem State.setAf_stopped (v : Word) : (s.setAf v).stopped = s.stopped := rfl
@[simp] theorem State.setAf_haltBug (v : Word) : (s.setAf v).haltBug = s.haltBug := rfl
@[simp] theorem State.setAf_locked (v : Word) : (s.setAf v).locked = s.locked := rfl
@[simp] theorem State.setAf_lockedOpcode (v : Word) : (s.setAf v).lockedOpcode = s.lockedOpcode := rfl
@[simp] theorem State.setAf_lockedAddr (v : Word) : (s.setAf v).lockedAddr = s.lockedAddr := rfl
@[simp] theorem State.setAf_mCycles (v : Word) : (s.setAf v).mCycles = s.mCycles := rfl
@[simp] theorem State.setAf_bus (v : Word) : (s.setAf v).bus = s.bus := rfl
@[simp] theorem State.setAf_unknownOpcodePolicy (v : Word) : (s.setAf v).unknownOpcodePolicy = s.unknownOpcodePolicy := rfl
@[simp] theorem State.setAf_stopPolicy (v : Word) : (s.setAf v).stopPolicy = s.stopPolicy := rfl
@[simp] theorem State.setAf_stopDraws (v : Word) : (s.setAf v).stopDraws = s.stopDraws := rfl
@[simp] theorem State.setAf_trace (v : Word) : (s.setAf v).trace = s.trace := rfl

/-! ## jump -/

@[simp] theorem State.jump_a (v : Word) : (s.jump v).a = s.a := rfl
@[simp] theorem State.jump_f (v : Word) : (s.jump v).f = s.f := rfl
@[simp] theorem State.jump_b (v : Word) : (s.jump v).b = s.b := rfl
@[simp] theorem State.jump_c (v : Word) : (s.jump v).c = s.c := rfl
@[simp] theorem State.jump_d (v : Word) : (s.jump v).d = s.d := rfl
@[simp] theorem State.jump_e (v : Word) : (s.jump v).e = s.e := rfl
@[simp] theorem State.jump_h (v : Word) : (s.jump v).h = s.h := rfl
@[simp] theorem State.jump_l (v : Word) : (s.jump v).l = s.l := rfl
@[simp] theorem State.jump_sp (v : Word) : (s.jump v).sp = s.sp := rfl
@[simp] theorem State.jump_pc (v : Word) : (s.jump v).pc = v := rfl
@[simp] theorem State.jump_ime (v : Word) : (s.jump v).ime = s.ime := rfl
@[simp] theorem State.jump_imePending (v : Word) : (s.jump v).imePending = s.imePending := rfl
@[simp] theorem State.jump_halted (v : Word) : (s.jump v).halted = s.halted := rfl
@[simp] theorem State.jump_stopped (v : Word) : (s.jump v).stopped = s.stopped := rfl
@[simp] theorem State.jump_haltBug (v : Word) : (s.jump v).haltBug = s.haltBug := rfl
@[simp] theorem State.jump_locked (v : Word) : (s.jump v).locked = s.locked := rfl
@[simp] theorem State.jump_lockedOpcode (v : Word) : (s.jump v).lockedOpcode = s.lockedOpcode := rfl
@[simp] theorem State.jump_lockedAddr (v : Word) : (s.jump v).lockedAddr = s.lockedAddr := rfl
@[simp] theorem State.jump_mCycles (v : Word) : (s.jump v).mCycles = s.mCycles := rfl
@[simp] theorem State.jump_bus (v : Word) : (s.jump v).bus = s.bus := rfl
@[simp] theorem State.jump_unknownOpcodePolicy (v : Word) : (s.jump v).unknownOpcodePolicy = s.unknownOpcodePolicy := rfl
@[simp] theorem State.jump_stopPolicy (v : Word) : (s.jump v).stopPolicy = s.stopPolicy := rfl
@[simp] theorem State.jump_stopDraws (v : Word) : (s.jump v).stopDraws = s.stopDraws := rfl
@[simp] theorem State.jump_trace (v : Word) : (s.jump v).trace = s.trace := rfl

/-! ## fetchOp -/

@[simp] theorem State.fetchOp_a : s.fetchOp.a = s.a := rfl
@[simp] theorem State.fetchOp_f : s.fetchOp.f = s.f := rfl
@[simp] theorem State.fetchOp_b : s.fetchOp.b = s.b := rfl
@[simp] theorem State.fetchOp_c : s.fetchOp.c = s.c := rfl
@[simp] theorem State.fetchOp_d : s.fetchOp.d = s.d := rfl
@[simp] theorem State.fetchOp_e : s.fetchOp.e = s.e := rfl
@[simp] theorem State.fetchOp_h : s.fetchOp.h = s.h := rfl
@[simp] theorem State.fetchOp_l : s.fetchOp.l = s.l := rfl
@[simp] theorem State.fetchOp_sp : s.fetchOp.sp = s.sp := rfl
@[simp] theorem State.fetchOp_pc : s.fetchOp.pc = if s.haltBug then s.pc else s.pc + 1 := rfl
@[simp] theorem State.fetchOp_ime : s.fetchOp.ime = s.ime := rfl
@[simp] theorem State.fetchOp_imePending : s.fetchOp.imePending = s.imePending := rfl
@[simp] theorem State.fetchOp_halted : s.fetchOp.halted = s.halted := rfl
@[simp] theorem State.fetchOp_stopped : s.fetchOp.stopped = s.stopped := rfl
@[simp] theorem State.fetchOp_haltBug : s.fetchOp.haltBug = false := rfl
@[simp] theorem State.fetchOp_locked : s.fetchOp.locked = s.locked := rfl
@[simp] theorem State.fetchOp_lockedOpcode : s.fetchOp.lockedOpcode = s.lockedOpcode := rfl
@[simp] theorem State.fetchOp_lockedAddr : s.fetchOp.lockedAddr = s.lockedAddr := rfl
@[simp] theorem State.fetchOp_mCycles : s.fetchOp.mCycles = s.mCycles := rfl
@[simp] theorem State.fetchOp_bus : s.fetchOp.bus = (s.bus.read8 s.pc).2 := rfl
@[simp] theorem State.fetchOp_unknownOpcodePolicy : s.fetchOp.unknownOpcodePolicy = s.unknownOpcodePolicy := rfl
@[simp] theorem State.fetchOp_stopPolicy : s.fetchOp.stopPolicy = s.stopPolicy := rfl
@[simp] theorem State.fetchOp_stopDraws : s.fetchOp.stopDraws = s.stopDraws := rfl
@[simp] theorem State.fetchOp_trace : s.fetchOp.trace = s.trace ++ [.read s.pc] := rfl

/-! ## fetchImm -/

@[simp] theorem State.fetchImm_a : s.fetchImm.a = s.a := rfl
@[simp] theorem State.fetchImm_f : s.fetchImm.f = s.f := rfl
@[simp] theorem State.fetchImm_b : s.fetchImm.b = s.b := rfl
@[simp] theorem State.fetchImm_c : s.fetchImm.c = s.c := rfl
@[simp] theorem State.fetchImm_d : s.fetchImm.d = s.d := rfl
@[simp] theorem State.fetchImm_e : s.fetchImm.e = s.e := rfl
@[simp] theorem State.fetchImm_h : s.fetchImm.h = s.h := rfl
@[simp] theorem State.fetchImm_l : s.fetchImm.l = s.l := rfl
@[simp] theorem State.fetchImm_sp : s.fetchImm.sp = s.sp := rfl
@[simp] theorem State.fetchImm_pc : s.fetchImm.pc = s.pc + 1 := rfl
@[simp] theorem State.fetchImm_ime : s.fetchImm.ime = s.ime := rfl
@[simp] theorem State.fetchImm_imePending : s.fetchImm.imePending = s.imePending := rfl
@[simp] theorem State.fetchImm_halted : s.fetchImm.halted = s.halted := rfl
@[simp] theorem State.fetchImm_stopped : s.fetchImm.stopped = s.stopped := rfl
@[simp] theorem State.fetchImm_haltBug : s.fetchImm.haltBug = s.haltBug := rfl
@[simp] theorem State.fetchImm_locked : s.fetchImm.locked = s.locked := rfl
@[simp] theorem State.fetchImm_lockedOpcode : s.fetchImm.lockedOpcode = s.lockedOpcode := rfl
@[simp] theorem State.fetchImm_lockedAddr : s.fetchImm.lockedAddr = s.lockedAddr := rfl
@[simp] theorem State.fetchImm_mCycles : s.fetchImm.mCycles = s.mCycles := rfl
@[simp] theorem State.fetchImm_bus : s.fetchImm.bus = (s.bus.read8 s.pc).2 := rfl
@[simp] theorem State.fetchImm_unknownOpcodePolicy : s.fetchImm.unknownOpcodePolicy = s.unknownOpcodePolicy := rfl
@[simp] theorem State.fetchImm_stopPolicy : s.fetchImm.stopPolicy = s.stopPolicy := rfl
@[simp] theorem State.fetchImm_stopDraws : s.fetchImm.stopDraws = s.stopDraws := rfl
@[simp] theorem State.fetchImm_trace : s.fetchImm.trace = s.trace ++ [.read s.pc] := rfl

/-! ## tick -/

@[simp] theorem State.tick_a (n : Nat) : (s.tick n).a = s.a := rfl
@[simp] theorem State.tick_f (n : Nat) : (s.tick n).f = s.f := rfl
@[simp] theorem State.tick_b (n : Nat) : (s.tick n).b = s.b := rfl
@[simp] theorem State.tick_c (n : Nat) : (s.tick n).c = s.c := rfl
@[simp] theorem State.tick_d (n : Nat) : (s.tick n).d = s.d := rfl
@[simp] theorem State.tick_e (n : Nat) : (s.tick n).e = s.e := rfl
@[simp] theorem State.tick_h (n : Nat) : (s.tick n).h = s.h := rfl
@[simp] theorem State.tick_l (n : Nat) : (s.tick n).l = s.l := rfl
@[simp] theorem State.tick_sp (n : Nat) : (s.tick n).sp = s.sp := rfl
@[simp] theorem State.tick_pc (n : Nat) : (s.tick n).pc = s.pc := rfl
@[simp] theorem State.tick_ime (n : Nat) : (s.tick n).ime = s.ime := rfl
@[simp] theorem State.tick_imePending (n : Nat) : (s.tick n).imePending = s.imePending := rfl
@[simp] theorem State.tick_halted (n : Nat) : (s.tick n).halted = s.halted := rfl
@[simp] theorem State.tick_stopped (n : Nat) : (s.tick n).stopped = s.stopped := rfl
@[simp] theorem State.tick_haltBug (n : Nat) : (s.tick n).haltBug = s.haltBug := rfl
@[simp] theorem State.tick_locked (n : Nat) : (s.tick n).locked = s.locked := rfl
@[simp] theorem State.tick_lockedOpcode (n : Nat) : (s.tick n).lockedOpcode = s.lockedOpcode := rfl
@[simp] theorem State.tick_lockedAddr (n : Nat) : (s.tick n).lockedAddr = s.lockedAddr := rfl
@[simp] theorem State.tick_mCycles (n : Nat) : (s.tick n).mCycles = s.mCycles + BitVec.ofNat 64 n := rfl
@[simp] theorem State.tick_bus (n : Nat) : (s.tick n).bus = s.bus := rfl
@[simp] theorem State.tick_unknownOpcodePolicy (n : Nat) : (s.tick n).unknownOpcodePolicy = s.unknownOpcodePolicy := rfl
@[simp] theorem State.tick_stopPolicy (n : Nat) : (s.tick n).stopPolicy = s.stopPolicy := rfl
@[simp] theorem State.tick_stopDraws (n : Nat) : (s.tick n).stopDraws = s.stopDraws := rfl
@[simp] theorem State.tick_trace (n : Nat) : (s.tick n).trace = s.trace := rfl

/-! ## push16 -/

@[simp] theorem State.push16_a (v : Word) : (s.push16 v).a = s.a := rfl
@[simp] theorem State.push16_f (v : Word) : (s.push16 v).f = s.f := rfl
@[simp] theorem State.push16_b (v : Word) : (s.push16 v).b = s.b := rfl
@[simp] theorem State.push16_c (v : Word) : (s.push16 v).c = s.c := rfl
@[simp] theorem State.push16_d (v : Word) : (s.push16 v).d = s.d := rfl
@[simp] theorem State.push16_e (v : Word) : (s.push16 v).e = s.e := rfl
@[simp] theorem State.push16_h (v : Word) : (s.push16 v).h = s.h := rfl
@[simp] theorem State.push16_l (v : Word) : (s.push16 v).l = s.l := rfl
@[simp] theorem State.push16_sp (v : Word) : (s.push16 v).sp = s.sp - 2 := rfl
@[simp] theorem State.push16_pc (v : Word) : (s.push16 v).pc = s.pc := rfl
@[simp] theorem State.push16_ime (v : Word) : (s.push16 v).ime = s.ime := rfl
@[simp] theorem State.push16_imePending (v : Word) : (s.push16 v).imePending = s.imePending := rfl
@[simp] theorem State.push16_halted (v : Word) : (s.push16 v).halted = s.halted := rfl
@[simp] theorem State.push16_stopped (v : Word) : (s.push16 v).stopped = s.stopped := rfl
@[simp] theorem State.push16_haltBug (v : Word) : (s.push16 v).haltBug = s.haltBug := rfl
@[simp] theorem State.push16_locked (v : Word) : (s.push16 v).locked = s.locked := rfl
@[simp] theorem State.push16_lockedOpcode (v : Word) : (s.push16 v).lockedOpcode = s.lockedOpcode := rfl
@[simp] theorem State.push16_lockedAddr (v : Word) : (s.push16 v).lockedAddr = s.lockedAddr := rfl
@[simp] theorem State.push16_mCycles (v : Word) : (s.push16 v).mCycles = s.mCycles := rfl
@[simp] theorem State.push16_bus (v : Word) : (s.push16 v).bus = (s.bus.write8 (s.sp - 2) (loByte v)).write8 (s.sp - 2 + 1) (hiByte v) := rfl
@[simp] theorem State.push16_unknownOpcodePolicy (v : Word) : (s.push16 v).unknownOpcodePolicy = s.unknownOpcodePolicy := rfl
@[simp] theorem State.push16_stopPolicy (v : Word) : (s.push16 v).stopPolicy = s.stopPolicy := rfl
@[simp] theorem State.push16_stopDraws (v : Word) : (s.push16 v).stopDraws = s.stopDraws := rfl
@[simp] theorem State.push16_trace (v : Word) : (s.push16 v).trace = s.trace ++ [.write (s.sp - 2) (loByte v)] ++ [.write (s.sp - 2 + 1) (hiByte v)] := rfl

/-! ## pop16 -/

@[simp] theorem State.pop16_a : s.pop16.a = s.a := rfl
@[simp] theorem State.pop16_f : s.pop16.f = s.f := rfl
@[simp] theorem State.pop16_b : s.pop16.b = s.b := rfl
@[simp] theorem State.pop16_c : s.pop16.c = s.c := rfl
@[simp] theorem State.pop16_d : s.pop16.d = s.d := rfl
@[simp] theorem State.pop16_e : s.pop16.e = s.e := rfl
@[simp] theorem State.pop16_h : s.pop16.h = s.h := rfl
@[simp] theorem State.pop16_l : s.pop16.l = s.l := rfl
@[simp] theorem State.pop16_sp : s.pop16.sp = s.sp + 2 := rfl
@[simp] theorem State.pop16_pc : s.pop16.pc = s.pc := rfl
@[simp] theorem State.pop16_ime : s.pop16.ime = s.ime := rfl
@[simp] theorem State.pop16_imePending : s.pop16.imePending = s.imePending := rfl
@[simp] theorem State.pop16_halted : s.pop16.halted = s.halted := rfl
@[simp] theorem State.pop16_stopped : s.pop16.stopped = s.stopped := rfl
@[simp] theorem State.pop16_haltBug : s.pop16.haltBug = s.haltBug := rfl
@[simp] theorem State.pop16_locked : s.pop16.locked = s.locked := rfl
@[simp] theorem State.pop16_lockedOpcode : s.pop16.lockedOpcode = s.lockedOpcode := rfl
@[simp] theorem State.pop16_lockedAddr : s.pop16.lockedAddr = s.lockedAddr := rfl
@[simp] theorem State.pop16_mCycles : s.pop16.mCycles = s.mCycles := rfl
@[simp] theorem State.pop16_bus : s.pop16.bus = ((s.bus.read8 s.sp).2.read8 (s.sp + 1)).2 := rfl
@[simp] theorem State.pop16_unknownOpcodePolicy : s.pop16.unknownOpcodePolicy = s.unknownOpcodePolicy := rfl
@[simp] theorem State.pop16_stopPolicy : s.pop16.stopPolicy = s.stopPolicy := rfl
@[simp] theorem State.pop16_stopDraws : s.pop16.stopDraws = s.stopDraws := rfl
@[simp] theorem State.pop16_trace : s.pop16.trace = s.trace ++ [.read s.sp] ++ [.read (s.sp + 1)] := rfl

/-! ## poll -/

@[simp] theorem State.poll_a : s.poll.a = s.a := rfl
@[simp] theorem State.poll_f : s.poll.f = s.f := rfl
@[simp] theorem State.poll_b : s.poll.b = s.b := rfl
@[simp] theorem State.poll_c : s.poll.c = s.c := rfl
@[simp] theorem State.poll_d : s.poll.d = s.d := rfl
@[simp] theorem State.poll_e : s.poll.e = s.e := rfl
@[simp] theorem State.poll_h : s.poll.h = s.h := rfl
@[simp] theorem State.poll_l : s.poll.l = s.l := rfl
@[simp] theorem State.poll_sp : s.poll.sp = s.sp := rfl
@[simp] theorem State.poll_pc : s.poll.pc = s.pc := rfl
@[simp] theorem State.poll_ime : s.poll.ime = s.ime := rfl
@[simp] theorem State.poll_imePending : s.poll.imePending = s.imePending := rfl
@[simp] theorem State.poll_halted : s.poll.halted = s.halted := rfl
@[simp] theorem State.poll_stopped : s.poll.stopped = s.stopped := rfl
@[simp] theorem State.poll_haltBug : s.poll.haltBug = s.haltBug := rfl
@[simp] theorem State.poll_locked : s.poll.locked = s.locked := rfl
@[simp] theorem State.poll_lockedOpcode : s.poll.lockedOpcode = s.lockedOpcode := rfl
@[simp] theorem State.poll_lockedAddr : s.poll.lockedAddr = s.lockedAddr := rfl
@[simp] theorem State.poll_mCycles : s.poll.mCycles = s.mCycles := rfl
@[simp] theorem State.poll_bus : s.poll.bus = ((s.bus.read8 Config.ieAddr).2.read8 Config.ifAddr).2 := rfl
@[simp] theorem State.poll_unknownOpcodePolicy : s.poll.unknownOpcodePolicy = s.unknownOpcodePolicy := rfl
@[simp] theorem State.poll_stopPolicy : s.poll.stopPolicy = s.stopPolicy := rfl
@[simp] theorem State.poll_stopDraws : s.poll.stopDraws = s.stopDraws := rfl
@[simp] theorem State.poll_trace : s.poll.trace = s.trace ++ [.read Config.ieAddr] ++ [.read Config.ifAddr] := rfl

/-! ## lock -/

@[simp] theorem State.lock_a (o : Byte) (x : Word) : (s.lock o x).a = s.a := rfl
@[simp] theorem State.lock_f (o : Byte) (x : Word) : (s.lock o x).f = s.f := rfl
@[simp] theorem State.lock_b (o : Byte) (x : Word) : (s.lock o x).b = s.b := rfl
@[simp] theorem State.lock_c (o : Byte) (x : Word) : (s.lock o x).c = s.c := rfl
@[simp] theorem State.lock_d (o : Byte) (x : Word) : (s.lock o x).d = s.d := rfl
@[simp] theorem State.lock_e (o : Byte) (x : Word) : (s.lock o x).e = s.e := rfl
@[simp] theorem State.lock_h (o : Byte) (x : Word) : (s.lock o x).h = s.h := rfl
@[simp] theorem State.lock_l (o : Byte) (x : Word) : (s.lock o x).l = s.l := rfl
@[simp] theorem State.lock_sp (o : Byte) (x : Word) : (s.lock o x).sp = s.sp := rfl
@[simp] theorem State.lock_pc (o : Byte) (x : Word) : (s.lock o x).pc = s.pc := rfl
@[simp] theorem State.lock_ime (o : Byte) (x : Word) : (s.lock o x).ime = s.ime := rfl
@[simp] theorem State.lock_imePending (o : Byte) (x : Word) : (s.lock o x).imePending = s.imePending := rfl
@[simp] theorem State.lock_halted (o : Byte) (x : Word) : (s.lock o x).halted = s.halted := rfl
@[simp] theorem State.lock_stopped (o : Byte) (x : Word) : (s.lock o x).stopped = s.stopped := rfl
@[simp] theorem State.lock_haltBug (o : Byte) (x : Word) : (s.lock o x).haltBug = s.haltBug := rfl
@[simp] theorem State.lock_locked (o : Byte) (x : Word) : (s.lock o x).locked = true := rfl
@[simp] theorem State.lock_lockedOpcode (o : Byte) (x : Word) : (s.lock o x).lockedOpcode = o := rfl
@[simp] theorem State.lock_lockedAddr (o : Byte) (x : Word) : (s.lock o x).lockedAddr = x := rfl
@[simp] theorem State.lock_mCycles (o : Byte) (x : Word) : (s.lock o x).mCycles = s.mCycles := rfl
@[simp] theorem State.lock_bus (o : Byte) (x : Word) : (s.lock o x).bus = s.bus := rfl
@[simp] theorem State.lock_unknownOpcodePolicy (o : Byte) (x : Word) : (s.lock o x).unknownOpcodePolicy = s.unknownOpcodePolicy := rfl
@[simp] theorem State.lock_stopPolicy (o : Byte) (x : Word) : (s.lock o x).stopPolicy = s.stopPolicy := rfl
@[simp] theorem State.lock_stopDraws (o : Byte) (x : Word) : (s.lock o x).stopDraws = s.stopDraws := rfl
@[simp] theorem State.lock_trace (o : Byte) (x : Word) : (s.lock o x).trace = s.trace := rfl

/-! ## beginStep -/

@[simp] theorem State.beginStep_a : s.beginStep.a = s.a := rfl
@[simp] theorem State.beginStep_f : s.beginStep.f = s.f := rfl
@[simp] theorem State.beginStep_b : s.beginStep.b = s.b := rfl
@[simp] theorem State.beginStep_c : s.beginStep.c = s.c := rfl
@[simp] theorem State.beginStep_d : s.beginStep.d = s.d := rfl
@[simp] theorem State.beginStep_e : s.beginStep.e = s.e := rfl
@[simp] theorem State.beginStep_h : s.beginStep.h = s.h := rfl
@[simp] theorem State.beginStep_l : s.beginStep.l = s.l := rfl
@[simp] theorem State.beginStep_sp : s.beginStep.sp = s.sp := rfl
@[simp] theorem State.beginStep_pc : s.beginStep.pc = s.pc := rfl
@[simp] theorem State.beginStep_ime : s.beginStep.ime = s.ime := rfl
@[simp] theorem State.beginStep_imePending : s.beginStep.imePending = s.imePending := rfl
@[simp] theorem State.beginStep_halted : s.beginStep.halted = s.halted := rfl
@[simp] theorem State.beginStep_stopped : s.beginStep.stopped = s.stopped := rfl
@[simp] theorem State.beginStep_haltBug : s.beginStep.haltBug = s.haltBug := rfl
@[simp] theorem State.beginStep_locked : s.beginStep.locked = s.locked := rfl
@[simp] theorem State.beginStep_lockedOpcode : s.beginStep.lockedOpcode = s.lockedOpcode := rfl
@[simp] theorem State.beginStep_lockedAddr : s.beginStep.lockedAddr = s.lockedAddr := rfl
@[simp] theorem State.beginStep_mCycles : s.beginStep.mCycles = s.mCycles := rfl
@[simp] theorem State.beginStep_bus : s.beginStep.bus = s.bus := rfl
@[simp] theorem State.beginStep_unknownOpcodePolicy : s.beginStep.unknownOpcodePolicy = s.unknownOpcodePolicy := rfl
@[simp] theorem State.beginStep_stopPolicy : s.beginStep.stopPolicy = s.stopPolicy := rfl
@[simp] theorem State.beginStep_stopDraws : s.beginStep.stopDraws = s.stopDraws := rfl
@[simp] theorem State.beginStep_trace : s.beginStep.trace = [] := rfl

/-! ## awake -/

@[simp] theorem State.awake_a : s.awake.a = s.a := rfl
@[simp] theorem State.awake_f : s.awake.f = s.f := rfl
@[simp] theorem State.awake_b : s.awake.b = s.b := rfl
@[simp] theorem State.awake_c : s.awake.c = s.c := rfl
@[simp] theorem State.awake_d : s.awake.d = s.d := rfl
@[simp] theorem State.awake_e : s.awake.e = s.e := rfl
@[simp] theorem State.awake_h : s.awake.h = s.h := rfl
@[simp] theorem State.awake_l : s.awake.l = s.l := rfl
@[simp] theorem State.awake_sp : s.awake.sp = s.sp := rfl
@[simp] theorem State.awake_pc : s.awake.pc = s.pc := rfl
@[simp] theorem State.awake_ime : s.awake.ime = s.ime := rfl
@[simp] theorem State.awake_imePending : s.awake.imePending = s.imePending := rfl
@[simp] theorem State.awake_halted : s.awake.halted = false := rfl
@[simp] theorem State.awake_stopped : s.awake.stopped = s.stopped := rfl
@[simp] theorem State.awake_haltBug : s.awake.haltBug = s.haltBug := rfl
@[simp] theorem State.awake_locked : s.awake.locked = s.locked := rfl
@[simp] theorem State.awake_lockedOpcode : s.awake.lockedOpcode = s.lockedOpcode := rfl
@[simp] theorem State.awake_lockedAddr : s.awake.lockedAddr = s.lockedAddr := rfl
@[simp] theorem State.awake_mCycles : s.awake.mCycles = s.mCycles := rfl
@[simp] theorem State.awake_bus : s.awake.bus = ((s.bus.read8 Config.ieAddr).2.read8 Config.ifAddr).2 := rfl
@[simp] theorem State.awake_unknownOpcodePolicy : s.awake.unknownOpcodePolicy = s.unknownOpcodePolicy := rfl
@[simp] theorem State.awake_stopPolicy : s.awake.stopPolicy = s.stopPolicy := rfl
@[simp] theorem State.awake_stopDraws : s.awake.stopDraws = s.stopDraws := rfl
@[simp] theorem State.awake_trace : s.awake.trace = s.trace ++ [.read Config.ieAddr] ++ [.read Config.ifAddr] := rfl

/-! ## The operands of rules R72 to R74: what a read leaves, and what a write leaves but for its destination -/

@[simp] theorem State.touchR_a (r : R8) : (s.touchR r).a = s.a := by cases r <;> rfl
@[simp] theorem State.touchR_f (r : R8) : (s.touchR r).f = s.f := by cases r <;> rfl
@[simp] theorem State.touchR_b (r : R8) : (s.touchR r).b = s.b := by cases r <;> rfl
@[simp] theorem State.touchR_c (r : R8) : (s.touchR r).c = s.c := by cases r <;> rfl
@[simp] theorem State.touchR_d (r : R8) : (s.touchR r).d = s.d := by cases r <;> rfl
@[simp] theorem State.touchR_e (r : R8) : (s.touchR r).e = s.e := by cases r <;> rfl
@[simp] theorem State.touchR_h (r : R8) : (s.touchR r).h = s.h := by cases r <;> rfl
@[simp] theorem State.touchR_l (r : R8) : (s.touchR r).l = s.l := by cases r <;> rfl
@[simp] theorem State.touchR_sp (r : R8) : (s.touchR r).sp = s.sp := by cases r <;> rfl
@[simp] theorem State.touchR_pc (r : R8) : (s.touchR r).pc = s.pc := by cases r <;> rfl
@[simp] theorem State.touchR_ime (r : R8) : (s.touchR r).ime = s.ime := by cases r <;> rfl
@[simp] theorem State.touchR_imePending (r : R8) : (s.touchR r).imePending = s.imePending := by cases r <;> rfl
@[simp] theorem State.touchR_halted (r : R8) : (s.touchR r).halted = s.halted := by cases r <;> rfl
@[simp] theorem State.touchR_stopped (r : R8) : (s.touchR r).stopped = s.stopped := by cases r <;> rfl
@[simp] theorem State.touchR_haltBug (r : R8) : (s.touchR r).haltBug = s.haltBug := by cases r <;> rfl
@[simp] theorem State.touchR_locked (r : R8) : (s.touchR r).locked = s.locked := by cases r <;> rfl
@[simp] theorem State.touchR_lockedOpcode (r : R8) : (s.touchR r).lockedOpcode = s.lockedOpcode := by cases r <;> rfl
@[simp] theorem State.touchR_lockedAddr (r : R8) : (s.touchR r).lockedAddr = s.lockedAddr := by cases r <;> rfl
@[simp] theorem State.touchR_mCycles (r : R8) : (s.touchR r).mCycles = s.mCycles := by cases r <;> rfl
@[simp] theorem State.touchR_unknownOpcodePolicy (r : R8) : (s.touchR r).unknownOpcodePolicy = s.unknownOpcodePolicy := by cases r <;> rfl
@[simp] theorem State.touchR_stopPolicy (r : R8) : (s.touchR r).stopPolicy = s.stopPolicy := by cases r <;> rfl
@[simp] theorem State.touchR_stopDraws (r : R8) : (s.touchR r).stopDraws = s.stopDraws := by cases r <;> rfl

@[simp] theorem State.setR_f (r : R8) (v : Byte) : (s.setR r v).f = s.f := by cases r <;> rfl
@[simp] theorem State.setRp_f (p : Rp) (v : Word) : (s.setRp p v).f = s.f := by cases p <;> rfl
@[simp] theorem State.setR_sp (r : R8) (v : Byte) : (s.setR r v).sp = s.sp := by cases r <;> rfl
@[simp] theorem State.setRp2_sp (p : Rp2) (v : Word) : (s.setRp2 p v).sp = s.sp := by cases p <;> rfl
@[simp] theorem State.setR_pc (r : R8) (v : Byte) : (s.setR r v).pc = s.pc := by cases r <;> rfl
@[simp] theorem State.setRp_pc (p : Rp) (v : Word) : (s.setRp p v).pc = s.pc := by cases p <;> rfl
@[simp] theorem State.setRp2_pc (p : Rp2) (v : Word) : (s.setRp2 p v).pc = s.pc := by cases p <;> rfl
@[simp] theorem State.setR_ime (r : R8) (v : Byte) : (s.setR r v).ime = s.ime := by cases r <;> rfl
@[simp] theorem State.setRp_ime (p : Rp) (v : Word) : (s.setRp p v).ime = s.ime := by cases p <;> rfl
@[simp] theorem State.setRp2_ime (p : Rp2) (v : Word) : (s.setRp2 p v).ime = s.ime := by cases p <;> rfl
@[simp] theorem State.setR_imePending (r : R8) (v : Byte) : (s.setR r v).imePending = s.imePending := by cases r <;> rfl
@[simp] theorem State.setRp_imePending (p : Rp) (v : Word) : (s.setRp p v).imePending = s.imePending := by cases p <;> rfl
@[simp] theorem State.setRp2_imePending (p : Rp2) (v : Word) : (s.setRp2 p v).imePending = s.imePending := by cases p <;> rfl
@[simp] theorem State.setR_halted (r : R8) (v : Byte) : (s.setR r v).halted = s.halted := by cases r <;> rfl
@[simp] theorem State.setRp_halted (p : Rp) (v : Word) : (s.setRp p v).halted = s.halted := by cases p <;> rfl
@[simp] theorem State.setRp2_halted (p : Rp2) (v : Word) : (s.setRp2 p v).halted = s.halted := by cases p <;> rfl
@[simp] theorem State.setR_stopped (r : R8) (v : Byte) : (s.setR r v).stopped = s.stopped := by cases r <;> rfl
@[simp] theorem State.setRp_stopped (p : Rp) (v : Word) : (s.setRp p v).stopped = s.stopped := by cases p <;> rfl
@[simp] theorem State.setRp2_stopped (p : Rp2) (v : Word) : (s.setRp2 p v).stopped = s.stopped := by cases p <;> rfl
@[simp] theorem State.setR_haltBug (r : R8) (v : Byte) : (s.setR r v).haltBug = s.haltBug := by cases r <;> rfl
@[simp] theorem State.setRp_haltBug (p : Rp) (v : Word) : (s.setRp p v).haltBug = s.haltBug := by cases p <;> rfl
@[simp] theorem State.setRp2_haltBug (p : Rp2) (v : Word) : (s.setRp2 p v).haltBug = s.haltBug := by cases p <;> rfl
@[simp] theorem State.setR_locked (r : R8) (v : Byte) : (s.setR r v).locked = s.locked := by cases r <;> rfl
@[simp] theorem State.setRp_locked (p : Rp) (v : Word) : (s.setRp p v).locked = s.locked := by cases p <;> rfl
@[simp] theorem State.setRp2_locked (p : Rp2) (v : Word) : (s.setRp2 p v).locked = s.locked := by cases p <;> rfl
@[simp] theorem State.setR_lockedOpcode (r : R8) (v : Byte) : (s.setR r v).lockedOpcode = s.lockedOpcode := by cases r <;> rfl
@[simp] theorem State.setRp_lockedOpcode (p : Rp) (v : Word) : (s.setRp p v).lockedOpcode = s.lockedOpcode := by cases p <;> rfl
@[simp] theorem State.setRp2_lockedOpcode (p : Rp2) (v : Word) : (s.setRp2 p v).lockedOpcode = s.lockedOpcode := by cases p <;> rfl
@[simp] theorem State.setR_lockedAddr (r : R8) (v : Byte) : (s.setR r v).lockedAddr = s.lockedAddr := by cases r <;> rfl
@[simp] theorem State.setRp_lockedAddr (p : Rp) (v : Word) : (s.setRp p v).lockedAddr = s.lockedAddr := by cases p <;> rfl
@[simp] theorem State.setRp2_lockedAddr (p : Rp2) (v : Word) : (s.setRp2 p v).lockedAddr = s.lockedAddr := by cases p <;> rfl
@[simp] theorem State.setR_mCycles (r : R8) (v : Byte) : (s.setR r v).mCycles = s.mCycles := by cases r <;> rfl
@[simp] theorem State.setRp_mCycles (p : Rp) (v : Word) : (s.setRp p v).mCycles = s.mCycles := by cases p <;> rfl
@[simp] theorem State.setRp2_mCycles (p : Rp2) (v : Word) : (s.setRp2 p v).mCycles = s.mCycles := by cases p <;> rfl
@[simp] theorem State.setR_unknownOpcodePolicy (r : R8) (v : Byte) : (s.setR r v).unknownOpcodePolicy = s.unknownOpcodePolicy := by cases r <;> rfl
@[simp] theorem State.setRp_unknownOpcodePolicy (p : Rp) (v : Word) : (s.setRp p v).unknownOpcodePolicy = s.unknownOpcodePolicy := by cases p <;> rfl
@[simp] theorem State.setRp2_unknownOpcodePolicy (p : Rp2) (v : Word) : (s.setRp2 p v).unknownOpcodePolicy = s.unknownOpcodePolicy := by cases p <;> rfl
@[simp] theorem State.setR_stopPolicy (r : R8) (v : Byte) : (s.setR r v).stopPolicy = s.stopPolicy := by cases r <;> rfl
@[simp] theorem State.setRp_stopPolicy (p : Rp) (v : Word) : (s.setRp p v).stopPolicy = s.stopPolicy := by cases p <;> rfl
@[simp] theorem State.setRp2_stopPolicy (p : Rp2) (v : Word) : (s.setRp2 p v).stopPolicy = s.stopPolicy := by cases p <;> rfl
@[simp] theorem State.setR_stopDraws (r : R8) (v : Byte) : (s.setR r v).stopDraws = s.stopDraws := by cases r <;> rfl
@[simp] theorem State.setRp_stopDraws (p : Rp) (v : Word) : (s.setRp p v).stopDraws = s.stopDraws := by cases p <;> rfl
@[simp] theorem State.setRp2_stopDraws (p : Rp2) (v : Word) : (s.setRp2 p v).stopDraws = s.stopDraws := by cases p <;> rfl
@[simp] theorem State.setRp_bus (p : Rp) (v : Word) : (s.setRp p v).bus = s.bus := by cases p <;> rfl
@[simp] theorem State.setRp2_bus (p : Rp2) (v : Word) : (s.setRp2 p v).bus = s.bus := by cases p <;> rfl
@[simp] theorem State.setRp_trace (p : Rp) (v : Word) : (s.setRp p v).trace = s.trace := by cases p <;> rfl
@[simp] theorem State.setRp2_trace (p : Rp2) (v : Word) : (s.setRp2 p v).trace = s.trace := by cases p <;> rfl

end Sys2Proof.Machine
end

