-- ==== Sys2Proof/Laws/Flags.lean ====
section
/-! SUPPORT. The packing of the flags in F (10_state.md R22, R25). -/

namespace Sys2Proof.Machine

open Sys2Proof

theorem packF_low_nibble (z n h c : Bool) : packF z n h c &&& 0x0F = 0 := by
  cases z <;> cases n <;> cases h <;> cases c <;> decide

theorem maskF_low_nibble (v : Byte) : maskF v &&& 0x0F = 0 := by
  unfold maskF
  rw [BitVec.and_assoc]
  exact BitVec.and_zero

variable (s : State) (z n h c : Bool)

/-- The four bits of a packed F. -/
theorem packF_bits : ∀ z n h c : Bool,
    (packF z n h c).getLsbD 7 = z ∧ (packF z n h c).getLsbD 6 = n ∧
      (packF z n h c).getLsbD 5 = h ∧ (packF z n h c).getLsbD 4 = c := by decide

@[simp] theorem State.setFlags_flagZ : (s.setFlags z n h c).flagZ = z := (packF_bits z n h c).1

@[simp] theorem State.setFlags_flagN : (s.setFlags z n h c).flagN = n := (packF_bits z n h c).2.1

@[simp] theorem State.setFlags_flagH : (s.setFlags z n h c).flagH = h := (packF_bits z n h c).2.2.1

@[simp] theorem State.setFlags_flagC : (s.setFlags z n h c).flagC = c := (packF_bits z n h c).2.2.2

/-- A byte whose low nibble is zero is the packing of its four flags. -/
theorem packF_flags (hf : s.f &&& 0x0F = 0) : packF s.flagZ s.flagN s.flagH s.flagC = s.f := by
  have key : ∀ f : Byte, f &&& 0x0F = 0 →
      packF (f.getLsbD 7) (f.getLsbD 6) (f.getLsbD 5) (f.getLsbD 4) = f := by decide
  exact key s.f hf

end Sys2Proof.Machine
end

