-- ==== Sys2Proof/Laws/Memory.lean ====
section
/-! SUPPORT. The laws of memory: read after write, and that every memory operation keeps the canonical form. -/

namespace Sys2Proof.Machine

open Sys2Proof

/-! ## Lookup after erase and insert -/

theorem Memory.lookup_erase_same (m : Memory) (a : Nat) :
    (m.erase a).lookup a = Config.unlistedByte := by
  induction m with
  | nil => rfl
  | cons p m ih =>
    by_cases h : p.1 = a
    · simpa [Memory.erase, h] using ih
    · simpa [Memory.erase, Memory.lookup, h] using ih

theorem Memory.lookup_erase_other (m : Memory) {a b : Nat} (hab : a ≠ b) :
    (m.erase a).lookup b = m.lookup b := by
  induction m with
  | nil => rfl
  | cons p m ih =>
    by_cases h : p.1 = a
    · have hb : p.1 ≠ b := fun e => hab (h.symm.trans e)
      have : (Memory.erase (p :: m) a).lookup b = (Memory.erase m a).lookup b := by
        simp [Memory.erase, h]
      rw [this, ih, Memory.lookup, if_neg hb]
    · have : Memory.erase (p :: m) a = p :: Memory.erase m a := by simp [Memory.erase, h]
      rw [this, Memory.lookup, Memory.lookup, ih]

theorem Memory.lookup_insert_same (m : Memory) (a : Nat) (v : Byte)
    (h : ∀ p ∈ m, p.1 ≠ a) : (m.insert a v).lookup a = v := by
  induction m with
  | nil => simp [Memory.insert, Memory.lookup]
  | cons p m ih =>
    rw [Memory.insert]
    split
    · simp [Memory.lookup]
    · rw [Memory.lookup, if_neg (h p (by simp)), ih fun q hq => h q (by simp [hq])]

theorem Memory.lookup_insert_other (m : Memory) {a b : Nat} (v : Byte) (hab : a ≠ b) :
    (m.insert a v).lookup b = m.lookup b := by
  induction m with
  | nil => simp [Memory.insert, Memory.lookup, hab]
  | cons p m ih =>
    rw [Memory.insert]
    split
    · rw [Memory.lookup, if_neg hab]
    · rw [Memory.lookup, Memory.lookup, ih]

theorem Memory.erase_absent (m : Memory) (a : Nat) : ∀ p ∈ m.erase a, p.1 ≠ a := by
  simp [Memory.erase]

/-! ## Read after write (20_memory.md R59) -/

@[simp] theorem Memory.read_write_same (m : Memory) (a : Word) (v : Byte) :
    (m.write a v).read a = v := by
  unfold Memory.read Memory.write
  split
  · rename_i h; rw [h, Memory.lookup_erase_same]
  · exact Memory.lookup_insert_same _ _ _ (Memory.erase_absent m _)

theorem Memory.read_write_other (m : Memory) {a b : Word} (v : Byte) (hab : a ≠ b) :
    (m.write a v).read b = m.read b := by
  have h : a.toNat ≠ b.toNat := fun e => hab (BitVec.eq_of_toNat_eq e)
  unfold Memory.read Memory.write
  split
  · exact Memory.lookup_erase_other m h
  · rw [Memory.lookup_insert_other _ _ h, Memory.lookup_erase_other m h]

theorem Memory.read_write (m : Memory) (a b : Word) (v : Byte) :
    (m.write a v).read b = if a = b then v else m.read b := by
  split
  · rename_i h; rw [← h, Memory.read_write_same]
  · rename_i h; exact Memory.read_write_other m v h

/-! ## The canonical form -/

theorem Memory.erase_wf {m : Memory} (h : m.wf) (a : Nat) : (m.erase a).wf :=
  ⟨h.1.filter _, fun p hp => h.2 p (List.mem_of_mem_filter hp)⟩

theorem Memory.mem_insert {m : Memory} {a : Nat} {v : Byte} {p : Host.Cell}
    (h : p ∈ m.insert a v) : p = (a, v) ∨ p ∈ m := by
  induction m with
  | nil => simpa [Memory.insert] using h
  | cons q m ih =>
    rw [Memory.insert] at h
    split at h
    · simpa using h
    · rcases List.mem_cons.1 h with h | h
      · exact .inr (by simp [h])
      · rcases ih h with h | h
        · exact .inl h
        · exact .inr (by simp [h])

theorem Memory.insert_wf {m : Memory} (h : m.wf) {a : Nat} {v : Byte} (ha : a < 65536)
    (hv : v ≠ Config.unlistedByte) (habs : ∀ p ∈ m, p.1 ≠ a) : (m.insert a v).wf := by
  refine ⟨?_, fun p hp => ?_⟩
  · have hs := h.1
    clear h
    induction m with
    | nil => simp [Memory.insert]
    | cons q m ih =>
      rw [List.pairwise_cons] at hs
      rw [Memory.insert]
      split
      · rename_i hlt
        refine List.pairwise_cons.2 ⟨fun p hp => ?_, List.pairwise_cons.2 hs⟩
        rcases List.mem_cons.1 hp with rfl | hp
        · exact hlt
        · exact Nat.lt_trans hlt (hs.1 p hp)
      · rename_i hlt
        refine List.pairwise_cons.2 ⟨fun p hp => ?_, ih (fun p hp => habs p (by simp [hp])) hs.2⟩
        rcases Memory.mem_insert hp with rfl | hp
        · have := habs q (by simp)
          simp only at *
          omega
        · exact hs.1 p hp
  · rcases Memory.mem_insert hp with rfl | hp
    · exact ⟨ha, hv⟩
    · exact h.2 p hp

theorem Memory.write_wf {m : Memory} (h : m.wf) (a : Word) (v : Byte) : (m.write a v).wf := by
  unfold Memory.write
  split
  · exact Memory.erase_wf h _
  · rename_i hv
    exact Memory.insert_wf (Memory.erase_wf h _) a.isLt hv (Memory.erase_absent m _)

/-! ## The bus (20_memory.md R50): what holds of every bus, and what holds of RAM -/

@[simp] theorem Bus.isRam_read8 (b : Bus) (a : Word) : (b.read8 a).2.isRam = b.isRam := by cases b <;> rfl

@[simp] theorem Bus.isRam_write8 (b : Bus) (a : Word) (v : Byte) : (b.write8 a v).isRam = b.isRam := by
  cases b <;> rfl

/-- A RAM bus lists its memory. -/
theorem Bus.eq_ram {b : Bus} (h : b.isRam = true) : b = .ram b.memory := by
  cases b
  · rfl
  · exact nomatch h

/-- A read of RAM has no side effect. -/
theorem Bus.read8_ram {b : Bus} (h : b.isRam = true) (a : Word) : (b.read8 a).2 = b := by
  cases b
  · rfl
  · exact nomatch h

theorem Bus.read_write_same {b : Bus} (h : b.isRam = true) (a : Word) (v : Byte) :
    ((b.write8 a v).read8 a).1 = v := by
  cases b
  · exact Memory.read_write_same _ a v
  · exact nomatch h

theorem Bus.read_write_other {b : Bus} (h : b.isRam = true) {a x : Word} (v : Byte) (hx : x ≠ a) :
    ((b.write8 a v).read8 x).1 = (b.read8 x).1 := by
  cases b
  · exact Memory.read_write_other _ v hx.symm
  · exact nomatch h

theorem Bus.read8_wf {b : Bus} (h : b.wf) (a : Word) : (b.read8 a).2.wf := by
  cases b <;> exact h

theorem Bus.write8_wf {b : Bus} (h : b.wf) (a : Word) (v : Byte) : (b.write8 a v).wf := by
  cases b
  · exact Memory.write_wf h a v
  · exact h

theorem Bus.after_wf {b : Bus} (h : b.wf) (c : BusCall) : (b.after c).wf := by
  cases c
  · exact Bus.read8_wf h _
  · exact Bus.write8_wf h _ _

theorem State.reset_bus_wf : State.reset.bus.wf := ⟨List.Pairwise.nil, by simp [State.reset, Bus.memory]⟩

/-! ## Every operation over the bus keeps the canonical form -/

theorem State.noteRead_wf {s : State} (h : s.bus.wf) (a : Word) : (s.noteRead a).bus.wf := Bus.read8_wf h a

theorem State.busWrite_wf {s : State} (h : s.bus.wf) (a : Word) (v : Byte) :
    (s.busWrite a v).bus.wf := Bus.write8_wf h a v

theorem State.busWrite16_wf {s : State} (h : s.bus.wf) (a v : Word) :
    (s.busWrite16 a v).bus.wf := Bus.write8_wf (Bus.write8_wf h _ _) _ _

theorem State.push16_wf {s : State} (h : s.bus.wf) (v : Word) : (s.push16 v).bus.wf :=
  State.busWrite16_wf (s := { s with sp := s.sp - 2 }) h _ _

theorem State.setR_wf {s : State} (h : s.bus.wf) (r : R8) (v : Byte) : (s.setR r v).bus.wf := by
  cases r <;> first | exact h | exact Bus.write8_wf h _ _

theorem State.hostWrite_wf {s : State} (h : s.bus.wf) (a : Word) (v : Byte) :
    (s.hostWrite a v).bus.wf := Bus.write8_wf h a v

theorem State.requestInterrupt_wf {s t : State} {k : Nat} (h : s.bus.wf) (ht : s.requestInterrupt k = .next t) :
    t.bus.wf := by
  unfold State.requestInterrupt at ht
  split at ht
  · cases ht
    exact Bus.write8_wf (Bus.read8_wf h _) _ _
  · cases ht

theorem State.placeInstr_wf {s : State} (h : s.bus.wf) (b0 b1 b2 : Byte) :
    (s.placeInstr b0 b1 b2).bus.wf :=
  Memory.write_wf (Memory.write_wf (Memory.write_wf h _ _) _ _) _ _

end Sys2Proof.Machine
end

