-- ==== Sys2Proof/Laws/Ops.lean ====
section
/-! SUPPORT. One lemma for each shared operation that says once everything it does, and the inversion of a step. -/

namespace Sys2Proof.Machine

open Sys2Proof

/-- A pushed word: SP, the two bytes and the two bus calls, low byte first (00_scope.md R13). -/
theorem State.push16_spec (s : State) (v : Word) :
    s.push16 v =
      { s with
        sp := s.sp - 2
        bus := (s.bus.write8 (s.sp - 2) (loByte v)).write8 (s.sp - 2 + 1) (hiByte v)
        trace := s.trace ++ [.write (s.sp - 2) (loByte v)] ++ [.write (s.sp - 2 + 1) (hiByte v)] } := rfl

/-- A popped word: SP and the two bus calls, low address first (00_scope.md R13). -/
theorem State.pop16_spec (s : State) :
    s.pop16 =
      { s with
        sp := s.sp + 2
        bus := ((s.bus.read8 s.sp).2.read8 (s.sp + 1)).2
        trace := s.trace ++ [.read s.sp] ++ [.read (s.sp + 1)] } := rfl

/-- The poll makes two bus calls and changes nothing else (60_exceptions.md R302). -/
theorem State.poll_spec (s : State) :
    s.poll =
      { s with
        bus := ((s.bus.read8 Config.ieAddr).2.read8 Config.ifAddr).2
        trace := s.trace ++ [.read Config.ieAddr] ++ [.read Config.ifAddr] } := rfl

/-- The opcode fetch (60_exceptions.md R309). -/
theorem State.fetchOp_spec (s : State) :
    s.fetchOp = { s with
      pc := if s.haltBug then s.pc else s.pc + 1
      haltBug := false
      bus := (s.bus.read8 s.pc).2
      trace := s.trace ++ [.read s.pc] } := rfl

/-- A dispatch writes IF, SP, the stack, PC, m_cycles, IME, IME_pending and halt_bug, and nothing else
(60_exceptions.md R304). -/
theorem State.dispatchInterrupt_spec (s : State) (req iflag : Byte) :
    s.dispatchInterrupt req iflag =
      { s with
        ime := false
        imePending := false
        haltBug := false
        sp := s.sp - 2
        pc := vectorOf (lowestSource req)
        mCycles := s.mCycles + BitVec.ofNat 64 5
        bus := ((s.bus.write8 Config.ifAddr (clearSource iflag (lowestSource req))).write8 (s.sp - 2)
          (loByte s.returnAddress)).write8 (s.sp - 2 + 1) (hiByte s.returnAddress)
        trace := s.trace ++ [.write Config.ifAddr (clearSource iflag (lowestSource req))]
          ++ [.write (s.sp - 2) (loByte s.returnAddress)] ++ [.write (s.sp - 2 + 1) (hiByte s.returnAddress)] } :=
  rfl

/-- A return from interrupt (44_control.md R239). -/
theorem State.returnFromInterrupt_spec (s : State) :
    s.returnFromInterrupt =
      { s with
        pc := s.peek16 s.sp
        sp := s.sp + 2
        ime := true
        bus := ((s.bus.read8 s.sp).2.read8 (s.sp + 1)).2
        trace := s.trace ++ [.read s.sp] ++ [.read (s.sp + 1)] } := rfl

/-- The EI commit does nothing, or sets IME and clears the latch (60_exceptions.md R307). -/
theorem State.commitEi_cases (s : State) (pend0 : Bool) :
    (s.commitEi pend0 = s ∧ (pend0 && s.imePending) = false) ∨
      (s.commitEi pend0 = { s with ime := true, imePending := false } ∧ pend0 = true ∧
        s.imePending = true) := by
  unfold State.commitEi
  cases pend0 <;> cases h : s.imePending <;> simp

/-- The lowest source of a nonzero request is an enabled and requested one, and no lower one is
(60_exceptions.md R303). -/
theorem lowestSource_spec : ∀ req : Byte, req &&& 0x1F = req → req ≠ 0 →
    req.getLsbD (lowestSource req) = true ∧ ∀ j < lowestSource req, req.getLsbD j = false := by
  decide

/-- An undefined byte goes on only under NopWithWarning (45_misc.md R266). -/
theorem undefinedByte_cases (op : Byte) (s : State) :
    (s.unknownOpcodePolicy = .lock ∧
        undefinedByte op s = .fault (.unknownOpcode op s.pc (s.fetch1.lock op s.pc))) ∨
      (s.unknownOpcodePolicy = .nopWithWarning ∧ undefinedByte op s = .next (s.fetch1.tick 1)) := by
  unfold undefinedByte
  cases h : s.unknownOpcodePolicy <;> simp

theorem awake_of_not_idle (s : State) (h : ¬(s.beginStep.halted && !s.beginStep.pending) = true) :
    s.halted = true → s.pending = true := fun hh => by
  change ¬(s.halted && !s.pending) = true at h
  simpa [hh] using h

theorem pending_of_not_dispatch (s : State)
    (h : ¬(s.beginStep.awake.ime && s.beginStep.request != 0) = true) : s.ime = true → s.pending = false := fun hi => by
  change ¬(s.ime && s.pending) = true at h
  simpa [hi] using h

/-- Everything a step that goes on can have done (60_exceptions.md R308): a stopped step, an idle halted step, a dispatch,
or an executed instruction with its commit. -/
theorem step_next_cases {s t : State} (h : step s = .next t) :
    s.locked = false ∧
      ((s.stopped = true ∧ t = s.beginStep.stoppedStep.commitEi s.imePending) ∨
        (s.stopped = false ∧ s.halted = true ∧ s.pending = false ∧
          t = s.beginStep.idleStep.commitEi s.imePending) ∨
        (s.stopped = false ∧ s.ime = true ∧ s.pending = true ∧
          t = s.beginStep.awake.dispatchInterrupt s.request s.iflag) ∨
        (s.stopped = false ∧ (s.halted = true → s.pending = true) ∧ (s.ime = true → s.pending = false) ∧
          ∃ u, exec s.nextInstr s.beginStep.awake = .next u ∧ t = u.commitEi s.imePending)) := by
  unfold step stepCases at h
  split at h
  · cases h
  rename_i hl
  refine ⟨Bool.eq_false_of_not_eq_true hl, ?_⟩
  split at h
  · rename_i hs
    cases h
    exact .inl ⟨hs, rfl⟩
  rename_i hs
  have hs' : s.stopped = false := Bool.eq_false_of_not_eq_true hs
  split at h
  · rename_i hh
    cases h
    rw [Bool.and_eq_true, Bool.not_eq_true'] at hh
    exact .inr (.inl ⟨hs', hh.1, hh.2, rfl⟩)
  rename_i hh
  unfold stepAwake at h
  split at h
  · rename_i hd
    cases h
    rw [Bool.and_eq_true] at hd
    exact .inr (.inr (.inl ⟨hs', hd.1, hd.2, rfl⟩))
  rename_i hd
  refine .inr (.inr (.inr ⟨hs', awake_of_not_idle s hh, pending_of_not_dispatch s hd, ?_⟩))
  revert h
  show commitOutcome s.imePending (exec s.nextInstr s.beginStep.awake) = .next t → _
  cases exec s.nextInstr s.beginStep.awake with
  | next u => intro h; cases h; exact ⟨u, rfl, rfl⟩
  | fault r => intro h; cases h
  | refused r => intro h; cases h

/-- Everything a step that faults can have done (60_exceptions.md R308, R312): a locked step, or an executed instruction's
own fault. -/
theorem step_fault_cases {s : State} {r : Fault} (h : step s = .fault r) :
    (s.locked = true ∧ r = lockedFault s.beginStep) ∨
      (s.locked = false ∧ s.stopped = false ∧ (s.halted = true → s.pending = true) ∧
        (s.ime = true → s.pending = false) ∧ exec s.nextInstr s.beginStep.awake = .fault r) := by
  unfold step stepCases at h
  split at h
  · rename_i hl
    cases h
    exact .inl ⟨hl, rfl⟩
  rename_i hl
  split at h
  · cases h
  rename_i hs
  split at h
  · cases h
  rename_i hh
  unfold stepAwake at h
  split at h
  · cases h
  rename_i hd
  refine .inr ⟨Bool.eq_false_of_not_eq_true hl, Bool.eq_false_of_not_eq_true hs, awake_of_not_idle s hh,
    pending_of_not_dispatch s hd, ?_⟩
  revert h
  show commitOutcome s.imePending (exec s.nextInstr s.beginStep.awake) = .fault r → _
  cases exec s.nextInstr s.beginStep.awake with
  | next u => intro h; cases h
  | fault r => intro h; cases h; rfl
  | refused r => intro h; cases h

/-- A step that is refused is one whose instruction is refused (60_exceptions.md R308). -/
theorem step_refused_cases {s : State} {r : Refusal} (h : step s = .refused r) :
    exec s.nextInstr s.beginStep.awake = .refused r := by
  unfold step stepCases at h
  split at h
  · cases h
  split at h
  · cases h
  split at h
  · cases h
  unfold stepAwake at h
  split at h
  · cases h
  revert h
  show commitOutcome s.imePending (exec s.nextInstr s.beginStep.awake) = .refused r → _
  cases exec s.nextInstr s.beginStep.awake with
  | next u => intro h; cases h
  | fault r => intro h; cases h
  | refused r => intro h; cases h; rfl

end Sys2Proof.Machine
end

