-- ==== Sys2Proof/Laws/Frames.lean ====
section
/-! SUPPORT. What each shared meaning changes and what it leaves: one lemma for each. -/




namespace Sys2Proof.Machine

open Sys2Proof

/-! ## PC after the fetch (60_exceptions.md R309) -/

theorem pc_after1 {s t : State} (h : t.pc = s.fetch1.pc) (n : Nat) (hn : some 0 = some n) :
    t.pc = (if s.haltBug then s.pc else s.pc + 1) + BitVec.ofNat 16 n := by
  cases hn
  simp [h, State.fetch1]

theorem pc_after2 {s t : State} (h : t.pc = s.fetch2.pc) (n : Nat) (hn : some 1 = some n) :
    t.pc = (if s.haltBug then s.pc else s.pc + 1) + BitVec.ofNat 16 n := by
  cases hn
  simp [h, State.fetch2]

theorem pc_after3 {s t : State} (h : t.pc = s.fetch3.pc) (n : Nat) (hn : some 2 = some n) :
    t.pc = (if s.haltBug then s.pc else s.pc + 1) + BitVec.ofNat 16 n := by
  cases hn
  simp [h, State.fetch3, BitVec.add_assoc]

/-! ## The bus calls between two states (20_memory.md R56) -/

/-- `t` comes from `s` by some bus calls, in the order the trace has them, each doing to the bus what it does and nothing else
changing it; the writes among them are at `addrs`. -/
def Calls (s t : State) (addrs : List Word) : Prop :=
  ∃ cs : List BusCall, t.trace = s.trace ++ cs ∧ t.bus = cs.foldl Bus.after s.bus ∧
    ∀ a v, BusCall.write a v ∈ cs → a ∈ addrs

theorem Calls.refl (s : State) (addrs : List Word) : Calls s s addrs :=
  ⟨[], (List.append_nil _).symm, rfl, fun _ _ h => nomatch h⟩

theorem Calls.read {s u : State} {addrs : List Word} (h : Calls s u addrs) (a : Word) : Calls s (u.noteRead a) addrs := by
  obtain ⟨cs, h1, h2, h3⟩ := h
  refine ⟨cs ++ [.read a], by simp [h1], by simp [h2, Bus.after], fun x v hx => ?_⟩
  rcases List.mem_append.1 hx with hx | hx
  · exact h3 x v hx
  · exact absurd hx (by simp)

theorem Calls.write {s u : State} {addrs : List Word} (h : Calls s u addrs) (a : Word) (v : Byte) (ha : a ∈ addrs) :
    Calls s (u.busWrite a v) addrs := by
  obtain ⟨cs, h1, h2, h3⟩ := h
  refine ⟨cs ++ [.write a v], by simp [h1], by simp [h2, Bus.after], fun x w hx => ?_⟩
  rcases List.mem_append.1 hx with hx | hx
  · exact h3 x w hx
  · simp only [List.mem_singleton, BusCall.write.injEq] at hx
    exact hx.1 ▸ ha

theorem Calls.touchR {s u : State} {addrs : List Word} (h : Calls s u addrs) (r : R8) : Calls s (u.touchR r) addrs := by
  cases r <;> first | exact h | exact h.read _

theorem Calls.setR {s u : State} {addrs : List Word} (h : Calls s u addrs) (r : R8) (v : Byte)
    (hr : r = .hlMem → u.hl ∈ addrs) : Calls s (u.setR r v) addrs := by
  cases r <;> first | exact h | exact h.write _ _ (hr rfl)

theorem Calls.fetch1 (s : State) (addrs : List Word) : Calls s s.fetch1 addrs := (Calls.refl s addrs).read s.pc

theorem Calls.fetch2 (s : State) (addrs : List Word) : Calls s s.fetch2 addrs :=
  (Calls.fetch1 s addrs).read s.fetch1.pc

theorem Calls.fetch3 (s : State) (addrs : List Word) : Calls s s.fetch3 addrs :=
  (Calls.fetch2 s addrs).read s.fetch2.pc

theorem Calls.wf {s t : State} {addrs : List Word} (h : Calls s t addrs) (hs : s.bus.wf) : t.bus.wf := by
  obtain ⟨cs, -, h2, -⟩ := h
  rw [h2]
  clear h2
  generalize s.bus = b at hs
  induction cs generalizing b with
  | nil => exact hs
  | cons c cs ih => exact ih _ (Bus.after_wf hs c)

/-- On a RAM bus the bytes outside the addresses written are unchanged. -/
theorem Calls.peek {s t : State} {addrs : List Word} (h : Calls s t addrs) (hs : s.bus.isRam = true) {x : Word}
    (hx : x ∉ addrs) : t.peek x = s.peek x := by
  obtain ⟨cs, -, h2, h3⟩ := h
  unfold State.peek
  rw [h2]
  clear h2
  generalize s.bus = b at hs
  induction cs generalizing b with
  | nil => rfl
  | cons c cs ih =>
    have ih := fun b hb => ih (fun a v hm => h3 a v (List.mem_cons_of_mem _ hm)) b hb
    cases c with
    | read a => exact (ih _ (by simpa [Bus.after] using hs)).trans (by rw [Bus.after, Bus.read8_ram hs])
    | write a v =>
      refine (ih _ (by simpa [Bus.after] using hs)).trans (Bus.read_write_other hs v fun e => hx ?_)
      exact e ▸ h3 a v List.mem_cons_self

/-! ## Registers that a write leaves -/

/-- The high byte of a pushed word lies at the old SP less one (00_scope.md R13). -/
theorem pushed_high_addr (x : Word) : x - 2 + 1 = x - 1 := by bv_omega

theorem State.setR_getR_other (s : State) {r q : R8} (v : Byte) (hq : q ≠ .hlMem) (h : q ∉ [r]) :
    (s.setR r v).getR q = s.getR q := by
  cases r <;> cases q <;> first | exact absurd rfl hq | rfl | exact absurd (by simp) h

/-- What a meaning does to the state `s` it starts from, as far as it writes neither IME, its latch, halted nor stopped:
the bus calls, the 8-bit registers and the addresses it may write, whether it may write SP, where PC is left if it does not jump, and its
M-cycles. -/
structure Effect (s t : State) (regs : List R8) (addrs : List Word) (sp : Bool) (len : Option Nat) (cycles : Nat) :
    Prop where
  /-- The bus changes by bus calls alone, which write only at `addrs`. -/
  calls : Calls s t addrs
  /-- Every 8-bit register outside `regs` is unchanged. -/
  regs : ∀ r, r ≠ .hlMem → r ∉ regs → t.getR r = s.getR r
  /-- SP is unchanged if the meaning may not write it. -/
  sp : sp = false → t.sp = s.sp
  /-- A meaning that does not jump leaves PC `len` bytes after the opcode byte. -/
  pc : ∀ n, len = some n → t.pc = (if s.haltBug then s.pc else s.pc + 1) + BitVec.ofNat 16 n
  /-- The M-cycles are counted. -/
  cycles : t.mCycles = s.mCycles + BitVec.ofNat 64 cycles
  /-- What no such meaning writes. -/
  control : (t.stopped, t.locked, t.lockedOpcode, t.lockedAddr, t.unknownOpcodePolicy, t.stopPolicy, t.stopDraws) =
    (s.stopped, s.locked, s.lockedOpcode, s.lockedAddr, s.unknownOpcodePolicy, s.stopPolicy, s.stopDraws)
  /-- IME, its latch and halted are unchanged, and the fetch has cleared halt_bug. -/
  run : t.ime = s.ime ∧ t.imePending = s.imePending ∧ t.halted = s.halted ∧ t.haltBug = false

/-- The halves of a pair of the table rp (30_encoding.md R73); SP has none. -/
def pairRegs (p : Rp) : List R8 :=
  match p with
  | .bc => [.b, .c]
  | .de => [.d, .e]
  | .hl => [.h, .l]
  | .sp => []

/-- The halves of a pair of the table rp2 but for F (30_encoding.md R74). -/
def pairRegs2 (p : Rp2) : List R8 :=
  match p with
  | .bc => [.b, .c]
  | .de => [.d, .e]
  | .hl => [.h, .l]
  | .af => [.a]

/-! ## The meanings that write an operand of the table r -/

theorem ldR_effect (dst src : R8) (n : Nat) (s : State) :
    Effect s (ldR dst src n s) [dst] (if dst = .hlMem then [s.hl] else []) false (some 0) n where
  calls := ((Calls.fetch1 s _).touchR src).setR dst (s.fetch1.getR src)
    fun e => by rw [if_pos e]; cases src <;> exact List.mem_singleton.2 rfl
  regs q h1 h2 := by
    refine Eq.trans ?_ ((State.setR_getR_other (s.fetch1.touchR src)
      (s.fetch1.getR src) h1 h2).trans ?_)
    · cases q <;> rfl
    · cases src <;> cases q <;> first | rfl | exact absurd rfl h1
  sp _ := by simp [ldR, State.fetch1]
  pc n h := by cases h; simp [ldR, State.fetch1]
  cycles := by simp [ldR, State.fetch1]
  control := by simp [ldR, State.fetch1]
  run := by simp [ldR, State.fetch1]

theorem ldRImm_effect (dst : R8) (v : Byte) (n : Nat) (s : State) :
    Effect s (ldRImm dst v n s) [dst] (if dst = .hlMem then [s.hl] else []) false (some 1) n where
  calls := (Calls.fetch2 s _).setR dst (v)
    fun e => by rw [if_pos e]; exact List.mem_singleton.2 rfl
  regs q h1 h2 := by
    refine Eq.trans ?_ ((State.setR_getR_other s.fetch2
      (v) h1 h2).trans ?_)
    · cases q <;> rfl
    · cases q <;> first | rfl | exact absurd rfl h1
  sp _ := by simp [ldRImm, State.fetch2]
  pc n h := by cases h; simp [ldRImm, State.fetch2]
  cycles := by simp [ldRImm, State.fetch2]
  control := by simp [ldRImm, State.fetch2]
  run := by simp [ldRImm, State.fetch2]

theorem incR_effect (r : R8) (n : Nat) (s : State) :
    Effect s (incR r n s) [r] (if r = .hlMem then [s.hl] else []) false (some 0) n where
  calls := ((Calls.fetch1 s _).touchR r).setR r ((inc8 (s.fetch1.getR r) s.fetch1.flagC).value)
    fun e => by rw [if_pos e]; cases r <;> exact List.mem_singleton.2 rfl
  regs q h1 h2 := by
    refine Eq.trans ?_ ((State.setR_getR_other (s.fetch1.touchR r)
      ((inc8 (s.fetch1.getR r) s.fetch1.flagC).value) h1 h2).trans ?_)
    · cases q <;> rfl
    · cases r <;> cases q <;> first | rfl | exact absurd rfl h1
  sp _ := by simp [incR, State.setResultFlags, State.fetch1]
  pc n h := by cases h; simp [incR, State.setResultFlags, State.fetch1]
  cycles := by simp [incR, State.setResultFlags, State.fetch1]
  control := by simp [incR, State.setResultFlags, State.fetch1]
  run := by simp [incR, State.setResultFlags, State.fetch1]

theorem decR_effect (r : R8) (n : Nat) (s : State) :
    Effect s (decR r n s) [r] (if r = .hlMem then [s.hl] else []) false (some 0) n where
  calls := ((Calls.fetch1 s _).touchR r).setR r ((dec8 (s.fetch1.getR r) s.fetch1.flagC).value)
    fun e => by rw [if_pos e]; cases r <;> exact List.mem_singleton.2 rfl
  regs q h1 h2 := by
    refine Eq.trans ?_ ((State.setR_getR_other (s.fetch1.touchR r)
      ((dec8 (s.fetch1.getR r) s.fetch1.flagC).value) h1 h2).trans ?_)
    · cases q <;> rfl
    · cases r <;> cases q <;> first | rfl | exact absurd rfl h1
  sp _ := by simp [decR, State.setResultFlags, State.fetch1]
  pc n h := by cases h; simp [decR, State.setResultFlags, State.fetch1]
  cycles := by simp [decR, State.setResultFlags, State.fetch1]
  control := by simp [decR, State.setResultFlags, State.fetch1]
  run := by simp [decR, State.setResultFlags, State.fetch1]

theorem cbRot_effect (op : RotOp) (r : R8) (s : State) :
    Effect s (cbRot op r s) [r] (if r = .hlMem then [s.hl] else []) false (some 1) (cbCycles r) where
  calls := ((Calls.fetch2 s _).touchR r).setR r ((rotResult op (s.fetch2.getR r) s.fetch2.flagC).1)
    fun e => by rw [if_pos e]; cases r <;> exact List.mem_singleton.2 rfl
  regs q h1 h2 := by
    refine Eq.trans ?_ ((State.setR_getR_other (s.fetch2.touchR r)
      ((rotResult op (s.fetch2.getR r) s.fetch2.flagC).1) h1 h2).trans ?_)
    · cases q <;> rfl
    · cases r <;> cases q <;> first | rfl | exact absurd rfl h1
  sp _ := by simp [cbRot, State.fetch2]
  pc n h := by cases h; simp [cbRot, State.fetch2]
  cycles := by simp [cbRot, State.fetch2]
  control := by simp [cbRot, State.fetch2]
  run := by simp [cbRot, State.fetch2]

theorem cbRes_effect (b : BitVec 3) (r : R8) (s : State) :
    Effect s (cbRes b r s) [r] (if r = .hlMem then [s.hl] else []) false (some 1) (cbCycles r) where
  calls := ((Calls.fetch2 s _).touchR r).setR r (resetBit b (s.fetch2.getR r))
    fun e => by rw [if_pos e]; cases r <;> exact List.mem_singleton.2 rfl
  regs q h1 h2 := by
    refine Eq.trans ?_ ((State.setR_getR_other (s.fetch2.touchR r)
      (resetBit b (s.fetch2.getR r)) h1 h2).trans ?_)
    · cases q <;> rfl
    · cases r <;> cases q <;> first | rfl | exact absurd rfl h1
  sp _ := by simp [cbRes, State.fetch2]
  pc n h := by cases h; simp [cbRes, State.fetch2]
  cycles := by simp [cbRes, State.fetch2]
  control := by simp [cbRes, State.fetch2]
  run := by simp [cbRes, State.fetch2]

theorem cbSet_effect (b : BitVec 3) (r : R8) (s : State) :
    Effect s (cbSet b r s) [r] (if r = .hlMem then [s.hl] else []) false (some 1) (cbCycles r) where
  calls := ((Calls.fetch2 s _).touchR r).setR r (setBit b (s.fetch2.getR r))
    fun e => by rw [if_pos e]; cases r <;> exact List.mem_singleton.2 rfl
  regs q h1 h2 := by
    refine Eq.trans ?_ ((State.setR_getR_other (s.fetch2.touchR r)
      (setBit b (s.fetch2.getR r)) h1 h2).trans ?_)
    · cases q <;> rfl
    · cases r <;> cases q <;> first | rfl | exact absurd rfl h1
  sp _ := by simp [cbSet, State.fetch2]
  pc n h := by cases h; simp [cbSet, State.fetch2]
  cycles := by simp [cbSet, State.fetch2]
  control := by simp [cbSet, State.fetch2]
  run := by simp [cbSet, State.fetch2]

/-! ## The other meanings -/

theorem cbBit_effect (b : BitVec 3) (r : R8) (s : State) :
    Effect s (cbBit b r s) [] [] false (some 1) (cbBitCycles r) := by
  cases r <;> 
    refine ⟨(Calls.fetch2 s _).touchR _, ?_, fun _ => rfl, pc_after2 rfl, rfl, rfl, rfl, rfl, rfl, rfl⟩ <;>
    (intro r h1 h2; cases r <;> first | rfl | exact absurd rfl h1)

theorem loadA_fetch1_effect (x : Word) (n : Nat) (s : State) :
    Effect s (loadA s.fetch1 x n) [.a] [] false (some 0) n := by
  refine ⟨(Calls.fetch1 s _).read x, ?_, fun _ => rfl, pc_after1 rfl, rfl, rfl, rfl, rfl, rfl, rfl⟩
  intro r h1 h2
  cases r <;> first | rfl | exact absurd rfl h1 | exact absurd (by decide) h2

theorem storeA_fetch1_effect (x : Word) (n : Nat) (s : State) :
    Effect s (storeA s.fetch1 x n) [] [x] false (some 0) n := by
  refine ⟨(Calls.fetch1 s _).write x s.a (List.mem_singleton.2 rfl),
    ?_, fun _ => rfl, pc_after1 rfl, rfl, rfl, rfl, rfl, rfl, rfl⟩
  intro r h1 h2
  cases r <;> first | rfl | exact absurd rfl h1

theorem loadA_fetch2_effect (x : Word) (n : Nat) (s : State) :
    Effect s (loadA s.fetch2 x n) [.a] [] false (some 1) n := by
  refine ⟨(Calls.fetch2 s _).read x, ?_, fun _ => rfl, pc_after2 rfl, rfl, rfl, rfl, rfl, rfl, rfl⟩
  intro r h1 h2
  cases r <;> first | rfl | exact absurd rfl h1 | exact absurd (by decide) h2

theorem storeA_fetch2_effect (x : Word) (n : Nat) (s : State) :
    Effect s (storeA s.fetch2 x n) [] [x] false (some 1) n := by
  refine ⟨(Calls.fetch2 s _).write x s.a (List.mem_singleton.2 rfl),
    ?_, fun _ => rfl, pc_after2 rfl, rfl, rfl, rfl, rfl, rfl, rfl⟩
  intro r h1 h2
  cases r <;> first | rfl | exact absurd rfl h1

theorem loadA_fetch3_effect (x : Word) (n : Nat) (s : State) :
    Effect s (loadA s.fetch3 x n) [.a] [] false (some 2) n := by
  refine ⟨(Calls.fetch3 s _).read x, ?_, fun _ => rfl, pc_after3 rfl, rfl, rfl, rfl, rfl, rfl, rfl⟩
  intro r h1 h2
  cases r <;> first | rfl | exact absurd rfl h1 | exact absurd (by decide) h2

theorem storeA_fetch3_effect (x : Word) (n : Nat) (s : State) :
    Effect s (storeA s.fetch3 x n) [] [x] false (some 2) n := by
  refine ⟨(Calls.fetch3 s _).write x s.a (List.mem_singleton.2 rfl),
    ?_, fun _ => rfl, pc_after3 rfl, rfl, rfl, rfl, rfl, rfl, rfl⟩
  intro r h1 h2
  cases r <;> first | rfl | exact absurd rfl h1

theorem loadAHl_effect (x : Word) (s : State) : Effect s (loadAHl x s) [.a, .h, .l] [] false (some 0) 2 := by
  refine ⟨(Calls.fetch1 s _).read s.hl, ?_, fun _ => rfl, pc_after1 rfl, rfl, rfl, rfl, rfl, rfl, rfl⟩
  intro r h1 h2
  cases r <;> first | rfl | exact absurd rfl h1 | exact absurd (by decide) h2

theorem storeAHl_effect (x : Word) (s : State) : Effect s (storeAHl x s) [.h, .l] [s.hl] false (some 0) 2 := by
  refine ⟨(Calls.fetch1 s _).write s.hl s.a (List.mem_singleton.2 rfl),
    ?_, fun _ => rfl, pc_after1 rfl, rfl, rfl, rfl, rfl, rfl, rfl⟩
  intro r h1 h2
  cases r <;> first | rfl | exact absurd rfl h1 | exact absurd (by decide) h2

theorem ldRpImm_effect (p : Rp) (nn : Word) (s : State) :
    Effect s (ldRpImm p nn s) (pairRegs p) [] (p == .sp) (some 2) 3 := by
  cases p <;> 
    refine ⟨Calls.fetch3 s _, ?_, ?_, pc_after3 rfl, rfl, rfl, rfl, rfl, rfl, rfl⟩ <;>
    first | exact fun _ => rfl | (intro hp; exact Bool.noConfusion hp) |
      (intro r h1 h2; cases r <;> first | rfl | exact absurd rfl h1 | exact absurd (by decide) h2)

theorem incPair_effect (p : Rp) (s : State) : Effect s (incPair p s) (pairRegs p) [] (p == .sp) (some 0) 2 := by
  cases p <;> 
    refine ⟨Calls.fetch1 s _, ?_, ?_, pc_after1 rfl, rfl, rfl, rfl, rfl, rfl, rfl⟩ <;>
    first | exact fun _ => rfl | (intro hp; exact Bool.noConfusion hp) |
      (intro r h1 h2; cases r <;> first | rfl | exact absurd rfl h1 | exact absurd (by decide) h2)

theorem decPair_effect (p : Rp) (s : State) : Effect s (decPair p s) (pairRegs p) [] (p == .sp) (some 0) 2 := by
  cases p <;> 
    refine ⟨Calls.fetch1 s _, ?_, ?_, pc_after1 rfl, rfl, rfl, rfl, rfl, rfl, rfl⟩ <;>
    first | exact fun _ => rfl | (intro hp; exact Bool.noConfusion hp) |
      (intro r h1 h2; cases r <;> first | rfl | exact absurd rfl h1 | exact absurd (by decide) h2)

theorem addHl_effect (p : Rp) (s : State) : Effect s (addHl p s) [.h, .l] [] false (some 0) 2 := by
  refine ⟨Calls.fetch1 s _, ?_, fun _ => rfl, pc_after1 rfl, rfl, rfl, rfl, rfl, rfl, rfl⟩
  intro r h1 h2
  cases r <;> first | rfl | exact absurd rfl h1 | exact absurd (by decide) h2

theorem ldNnSp_effect (nn : Word) (s : State) : Effect s (ldNnSp nn s) [] [nn, nn + 1] false (some 2) 5 := by
  refine ⟨((Calls.fetch3 s _).write nn (loByte s.sp) (by simp)).write (nn + 1) (hiByte s.sp) (by simp),
    ?_, fun _ => rfl, pc_after3 rfl, rfl, rfl, rfl, rfl, rfl, rfl⟩
  intro r h1 h2
  cases r <;> first | rfl | exact absurd rfl h1

theorem ldSpHl_effect (s : State) : Effect s (ldSpHl s) [] [] true (some 0) 2 := by
  refine ⟨Calls.fetch1 s _, ?_, (fun h => nomatch h), pc_after1 rfl, rfl, rfl, rfl, rfl, rfl, rfl⟩
  intro r h1 h2
  cases r <;> first | rfl | exact absurd rfl h1

theorem ldHlSpOff_effect (e : Byte) (s : State) : Effect s (ldHlSpOff e s) [.h, .l] [] false (some 1) 3 := by
  refine ⟨Calls.fetch2 s _, ?_, fun _ => rfl, pc_after2 rfl, rfl, rfl, rfl, rfl, rfl, rfl⟩
  intro r h1 h2
  cases r <;> first | rfl | exact absurd rfl h1 | exact absurd (by decide) h2

theorem addSp_effect (e : Byte) (s : State) : Effect s (addSp e s) [] [] true (some 1) 4 := by
  refine ⟨Calls.fetch2 s _, ?_, (fun h => nomatch h), pc_after2 rfl, rfl, rfl, rfl, rfl, rfl, rfl⟩
  intro r h1 h2
  cases r <;> first | rfl | exact absurd rfl h1

theorem pushPair_effect (p : Rp2) (s : State) : Effect s (pushPair p s) [] [s.sp - 2, s.sp - 1] true (some 0) 4 := by
  rw [← pushed_high_addr s.sp]
  refine ⟨((Calls.fetch1 s _).write (s.sp - 2) (loByte (s.fetch1.getRp2 p)) (by simp)).write ((s.sp - 2) + 1) (hiByte (s.fetch1.getRp2 p)) (by simp),
    ?_, (fun h => nomatch h), pc_after1 rfl, rfl, rfl, rfl, rfl, rfl, rfl⟩
  intro r h1 h2
  cases r <;> first | rfl | exact absurd rfl h1

theorem popPair_effect (p : Rp2) (s : State) : Effect s (popPair p s) (pairRegs2 p) [] true (some 0) 3 := by
  cases p <;> 
    refine ⟨((Calls.fetch1 s _).read s.sp).read (s.sp + 1),
    ?_, (fun h => nomatch h), pc_after1 rfl, rfl, rfl, rfl, rfl, rfl, rfl⟩ <;>
    (intro r h1 h2; cases r <;> first | rfl | exact absurd rfl h1 | exact absurd (by decide) h2)

theorem aluR_effect (op : AluOp) (src : R8) (n : Nat) (s : State) :
    Effect s (aluR op src n s) [.a] [] false (some 0) n := by
  cases src <;> 
    refine ⟨(Calls.fetch1 s _).touchR _, ?_, fun _ => rfl, pc_after1 rfl, rfl, rfl, rfl, rfl, rfl, rfl⟩ <;>
    (intro r h1 h2; cases r <;> first | rfl | exact absurd rfl h1 | exact absurd (by decide) h2)

theorem aluR_cp_effect (src : R8) (n : Nat) (s : State) : Effect s (aluR .cp src n s) [] [] false (some 0) n := by
  cases src <;> 
    refine ⟨(Calls.fetch1 s _).touchR _, ?_, fun _ => rfl, pc_after1 rfl, rfl, rfl, rfl, rfl, rfl, rfl⟩ <;>
    (intro r h1 h2; cases r <;> first | rfl | exact absurd rfl h1)

theorem aluImm_effect (op : AluOp) (v : Byte) (s : State) : Effect s (aluImm op v s) [.a] [] false (some 1) 2 := by
  refine ⟨Calls.fetch2 s _, ?_, fun _ => rfl, pc_after2 rfl, rfl, rfl, rfl, rfl, rfl, rfl⟩
  intro r h1 h2
  cases r <;> first | rfl | exact absurd rfl h1 | exact absurd (by decide) h2

theorem aluImm_cp_effect (v : Byte) (s : State) : Effect s (aluImm .cp v s) [] [] false (some 1) 2 := by
  refine ⟨Calls.fetch2 s _, ?_, fun _ => rfl, pc_after2 rfl, rfl, rfl, rfl, rfl, rfl, rfl⟩
  intro r h1 h2
  cases r <;> first | rfl | exact absurd rfl h1

theorem daa_effect (s : State) : Effect s (daa s) [.a] [] false (some 0) 1 := by
  refine ⟨Calls.fetch1 s _, ?_, fun _ => rfl, pc_after1 rfl, rfl, rfl, rfl, rfl, rfl, rfl⟩
  intro r h1 h2
  cases r <;> first | rfl | exact absurd rfl h1 | exact absurd (by decide) h2

theorem cpl_effect (s : State) : Effect s (cpl s) [.a] [] false (some 0) 1 := by
  refine ⟨Calls.fetch1 s _, ?_, fun _ => rfl, pc_after1 rfl, rfl, rfl, rfl, rfl, rfl, rfl⟩
  intro r h1 h2
  cases r <;> first | rfl | exact absurd rfl h1 | exact absurd (by decide) h2

theorem scf_effect (s : State) : Effect s (scf s) [] [] false (some 0) 1 := by
  refine ⟨Calls.fetch1 s _, ?_, fun _ => rfl, pc_after1 rfl, rfl, rfl, rfl, rfl, rfl, rfl⟩
  intro r h1 h2
  cases r <;> first | rfl | exact absurd rfl h1

theorem ccf_effect (s : State) : Effect s (ccf s) [] [] false (some 0) 1 := by
  refine ⟨Calls.fetch1 s _, ?_, fun _ => rfl, pc_after1 rfl, rfl, rfl, rfl, rfl, rfl, rfl⟩
  intro r h1 h2
  cases r <;> first | rfl | exact absurd rfl h1

theorem accRot_effect (op : RotOp) (s : State) : Effect s (accRot op s) [.a] [] false (some 0) 1 := by
  refine ⟨Calls.fetch1 s _, ?_, fun _ => rfl, pc_after1 rfl, rfl, rfl, rfl, rfl, rfl, rfl⟩
  intro r h1 h2
  cases r <;> first | rfl | exact absurd rfl h1 | exact absurd (by decide) h2

theorem jp_effect (nn : Word) (s : State) : Effect s (jp nn s) [] [] false none 4 := by
  refine ⟨Calls.fetch3 s _, ?_, fun _ => rfl, (fun _ h => nomatch h), rfl, rfl, rfl, rfl, rfl, rfl⟩
  intro r h1 h2
  cases r <;> first | rfl | exact absurd rfl h1

theorem jpHl_effect (s : State) : Effect s (jpHl s) [] [] false none 1 := by
  refine ⟨Calls.fetch1 s _, ?_, fun _ => rfl, (fun _ h => nomatch h), rfl, rfl, rfl, rfl, rfl, rfl⟩
  intro r h1 h2
  cases r <;> first | rfl | exact absurd rfl h1

theorem jr_effect (e : Byte) (s : State) : Effect s (jr e s) [] [] false none 3 := by
  refine ⟨Calls.fetch2 s _, ?_, fun _ => rfl, (fun _ h => nomatch h), rfl, rfl, rfl, rfl, rfl, rfl⟩
  intro r h1 h2
  cases r <;> first | rfl | exact absurd rfl h1

theorem jpCc_effect (cc : Cc) (nn : Word) (s : State) :
    Effect s (jpCc cc nn s) [] [] false none (if s.cond cc then 4 else 3) := by
  unfold jpCc
  split <;> 
    refine ⟨Calls.fetch3 s _, ?_, fun _ => rfl, (fun _ h => nomatch h), rfl, rfl, rfl, rfl, rfl, rfl⟩ <;>
    (intro r h1 h2; cases r <;> first | rfl | exact absurd rfl h1)

theorem jrCc_effect (cc : Cc) (e : Byte) (s : State) :
    Effect s (jrCc cc e s) [] [] false none (if s.cond cc then 3 else 2) := by
  unfold jrCc
  split <;> 
    refine ⟨Calls.fetch2 s _, ?_, fun _ => rfl, (fun _ h => nomatch h), rfl, rfl, rfl, rfl, rfl, rfl⟩ <;>
    (intro r h1 h2; cases r <;> first | rfl | exact absurd rfl h1)

theorem retCc_effect (cc : Cc) (s : State) : Effect s (retCc cc s) [] [] true none (if s.cond cc then 5 else 2) := by
  unfold retCc
  split <;> 
    refine ⟨by first | exact Calls.fetch1 s _ | exact ((Calls.fetch1 s _).read s.sp).read (s.sp + 1),
    ?_, (fun h => nomatch h), (fun _ h => nomatch h), rfl, rfl, rfl, rfl, rfl, rfl⟩ <;>
    (intro r h1 h2; cases r <;> first | rfl | exact absurd rfl h1)

theorem ret_effect (s : State) : Effect s (ret s) [] [] true none 4 := by
  refine ⟨((Calls.fetch1 s _).read s.sp).read (s.sp + 1),
    ?_, (fun h => nomatch h), (fun _ h => nomatch h), rfl, rfl, rfl, rfl, rfl, rfl⟩
  intro r h1 h2
  cases r <;> first | rfl | exact absurd rfl h1

theorem call_effect (nn : Word) (s : State) : Effect s (call nn s) [] [s.sp - 2, s.sp - 1] true none 6 := by
  rw [← pushed_high_addr s.sp]
  refine ⟨((Calls.fetch3 s _).write (s.sp - 2) (loByte s.fetch3.pc) (by simp)).write ((s.sp - 2) + 1) (hiByte s.fetch3.pc) (by simp),
    ?_, (fun h => nomatch h), (fun _ h => nomatch h), rfl, rfl, rfl, rfl, rfl, rfl⟩
  intro r h1 h2
  cases r <;> first | rfl | exact absurd rfl h1

theorem rst_effect (x : Word) (s : State) : Effect s (rst x s) [] [s.sp - 2, s.sp - 1] true none 4 := by
  rw [← pushed_high_addr s.sp]
  refine ⟨((Calls.fetch1 s _).write (s.sp - 2) (loByte s.fetch1.pc) (by simp)).write ((s.sp - 2) + 1) (hiByte s.fetch1.pc) (by simp),
    ?_, (fun h => nomatch h), (fun _ h => nomatch h), rfl, rfl, rfl, rfl, rfl, rfl⟩
  intro r h1 h2
  cases r <;> first | rfl | exact absurd rfl h1

theorem callCc_effect (cc : Cc) (nn : Word) (s : State) :
    Effect s (callCc cc nn s) [] (if s.cond cc then [s.sp - 2, s.sp - 1] else []) true none
      (if s.cond cc then 6 else 3) := by
  unfold callCc
  split
  · exact call_effect nn s
  · refine ⟨Calls.fetch3 s _, ?_, (fun h => nomatch h), (fun _ h => nomatch h), rfl, rfl, rfl, rfl, rfl, rfl⟩
    intro r h1 h2
    cases r <;> first | rfl | exact absurd rfl h1

theorem nop_effect (s : State) : Effect s (nop s) [] [] false (some 0) 1 := by
  refine ⟨Calls.fetch1 s _, ?_, fun _ => rfl, pc_after1 rfl, rfl, rfl, rfl, rfl, rfl, rfl⟩
  intro r h1 h2
  cases r <;> first | rfl | exact absurd rfl h1

end Sys2Proof.Machine
end

