-- ==== Sys2Proof/Laws/PerInstr.lean ====
section
/-! SUPPORT. Statements made once per instruction. -/

namespace Sys2Proof.Laws.EncodeLength

/-- The encoding is as long as 30_encoding.md R86 says by its first byte. -/
def Statement (i : Instr) : Prop :=
  ∃ op rest, encode i = op :: rest ∧ (encode i).length = opLength op

theorem ldBcImm16 (nn : Word) : Statement (.ldBcImm16 nn) := ⟨_, _, rfl, rfl⟩
theorem ldBImm (n : Byte) : Statement (.ldBImm n) := ⟨_, _, rfl, rfl⟩
theorem ldAtImm16Sp (nn : Word) : Statement (.ldAtImm16Sp nn) := ⟨_, _, rfl, rfl⟩
theorem ldCImm (n : Byte) : Statement (.ldCImm n) := ⟨_, _, rfl, rfl⟩
theorem ldDeImm16 (nn : Word) : Statement (.ldDeImm16 nn) := ⟨_, _, rfl, rfl⟩
theorem ldDImm (n : Byte) : Statement (.ldDImm n) := ⟨_, _, rfl, rfl⟩
theorem jrOff (e : Byte) : Statement (.jrOff e) := ⟨_, _, rfl, rfl⟩
theorem ldEImm (n : Byte) : Statement (.ldEImm n) := ⟨_, _, rfl, rfl⟩
theorem jrNzOff (e : Byte) : Statement (.jrNzOff e) := ⟨_, _, rfl, rfl⟩
theorem ldHlImm16 (nn : Word) : Statement (.ldHlImm16 nn) := ⟨_, _, rfl, rfl⟩
theorem ldHImm (n : Byte) : Statement (.ldHImm n) := ⟨_, _, rfl, rfl⟩
theorem jrZOff (e : Byte) : Statement (.jrZOff e) := ⟨_, _, rfl, rfl⟩
theorem ldLImm (n : Byte) : Statement (.ldLImm n) := ⟨_, _, rfl, rfl⟩
theorem jrNcOff (e : Byte) : Statement (.jrNcOff e) := ⟨_, _, rfl, rfl⟩
theorem ldSpImm16 (nn : Word) : Statement (.ldSpImm16 nn) := ⟨_, _, rfl, rfl⟩
theorem ldAtHlImm (n : Byte) : Statement (.ldAtHlImm n) := ⟨_, _, rfl, rfl⟩
theorem jrCOff (e : Byte) : Statement (.jrCOff e) := ⟨_, _, rfl, rfl⟩
theorem ldAImm (n : Byte) : Statement (.ldAImm n) := ⟨_, _, rfl, rfl⟩
theorem jpNzImm16 (nn : Word) : Statement (.jpNzImm16 nn) := ⟨_, _, rfl, rfl⟩
theorem jpImm16 (nn : Word) : Statement (.jpImm16 nn) := ⟨_, _, rfl, rfl⟩
theorem callNzImm16 (nn : Word) : Statement (.callNzImm16 nn) := ⟨_, _, rfl, rfl⟩
theorem addAImm (n : Byte) : Statement (.addAImm n) := ⟨_, _, rfl, rfl⟩
theorem jpZImm16 (nn : Word) : Statement (.jpZImm16 nn) := ⟨_, _, rfl, rfl⟩
theorem prefixCb (op2 : Byte) : Statement (.prefixCb op2) := ⟨_, _, rfl, rfl⟩
theorem callZImm16 (nn : Word) : Statement (.callZImm16 nn) := ⟨_, _, rfl, rfl⟩
theorem callImm16 (nn : Word) : Statement (.callImm16 nn) := ⟨_, _, rfl, rfl⟩
theorem adcAImm (n : Byte) : Statement (.adcAImm n) := ⟨_, _, rfl, rfl⟩
theorem jpNcImm16 (nn : Word) : Statement (.jpNcImm16 nn) := ⟨_, _, rfl, rfl⟩
theorem callNcImm16 (nn : Word) : Statement (.callNcImm16 nn) := ⟨_, _, rfl, rfl⟩
theorem subAImm (n : Byte) : Statement (.subAImm n) := ⟨_, _, rfl, rfl⟩
theorem jpCImm16 (nn : Word) : Statement (.jpCImm16 nn) := ⟨_, _, rfl, rfl⟩
theorem callCImm16 (nn : Word) : Statement (.callCImm16 nn) := ⟨_, _, rfl, rfl⟩
theorem sbcAImm (n : Byte) : Statement (.sbcAImm n) := ⟨_, _, rfl, rfl⟩
theorem ldhAtImmA (n : Byte) : Statement (.ldhAtImmA n) := ⟨_, _, rfl, rfl⟩
theorem andAImm (n : Byte) : Statement (.andAImm n) := ⟨_, _, rfl, rfl⟩
theorem addSpOff (e : Byte) : Statement (.addSpOff e) := ⟨_, _, rfl, rfl⟩
theorem ldAtImm16A (nn : Word) : Statement (.ldAtImm16A nn) := ⟨_, _, rfl, rfl⟩
theorem xorAImm (n : Byte) : Statement (.xorAImm n) := ⟨_, _, rfl, rfl⟩
theorem ldhAAtImm (n : Byte) : Statement (.ldhAAtImm n) := ⟨_, _, rfl, rfl⟩
theorem orAImm (n : Byte) : Statement (.orAImm n) := ⟨_, _, rfl, rfl⟩
theorem ldHlSpOff (e : Byte) : Statement (.ldHlSpOff e) := ⟨_, _, rfl, rfl⟩
theorem ldAAtImm16 (nn : Word) : Statement (.ldAAtImm16 nn) := ⟨_, _, rfl, rfl⟩
theorem cpAImm (n : Byte) : Statement (.cpAImm n) := ⟨_, _, rfl, rfl⟩
theorem rlc (r : R8) : Statement (.rlc r) := ⟨_, _, rfl, rfl⟩
theorem rrc (r : R8) : Statement (.rrc r) := ⟨_, _, rfl, rfl⟩
theorem rl (r : R8) : Statement (.rl r) := ⟨_, _, rfl, rfl⟩
theorem rr (r : R8) : Statement (.rr r) := ⟨_, _, rfl, rfl⟩
theorem sla (r : R8) : Statement (.sla r) := ⟨_, _, rfl, rfl⟩
theorem sra (r : R8) : Statement (.sra r) := ⟨_, _, rfl, rfl⟩
theorem swap (r : R8) : Statement (.swap r) := ⟨_, _, rfl, rfl⟩
theorem srl (r : R8) : Statement (.srl r) := ⟨_, _, rfl, rfl⟩
theorem bit (b : BitVec 3) (r : R8) : Statement (.bit b r) := ⟨_, _, rfl, rfl⟩
theorem res (b : BitVec 3) (r : R8) : Statement (.res b r) := ⟨_, _, rfl, rfl⟩
theorem set (b : BitVec 3) (r : R8) : Statement (.set b r) := ⟨_, _, rfl, rfl⟩
theorem nop : Statement (.nop) := ⟨_, _, rfl, rfl⟩
theorem ldAtBcA : Statement (.ldAtBcA) := ⟨_, _, rfl, rfl⟩
theorem incBc : Statement (.incBc) := ⟨_, _, rfl, rfl⟩
theorem incB : Statement (.incB) := ⟨_, _, rfl, rfl⟩
theorem decB : Statement (.decB) := ⟨_, _, rfl, rfl⟩
theorem rlca : Statement (.rlca) := ⟨_, _, rfl, rfl⟩
theorem addHlBc : Statement (.addHlBc) := ⟨_, _, rfl, rfl⟩
theorem ldAAtBc : Statement (.ldAAtBc) := ⟨_, _, rfl, rfl⟩
theorem decBc : Statement (.decBc) := ⟨_, _, rfl, rfl⟩
theorem incC : Statement (.incC) := ⟨_, _, rfl, rfl⟩
theorem decC : Statement (.decC) := ⟨_, _, rfl, rfl⟩
theorem rrca : Statement (.rrca) := ⟨_, _, rfl, rfl⟩
theorem stop : Statement (.stop) := ⟨_, _, rfl, rfl⟩
theorem ldAtDeA : Statement (.ldAtDeA) := ⟨_, _, rfl, rfl⟩
theorem incDe : Statement (.incDe) := ⟨_, _, rfl, rfl⟩
theorem incD : Statement (.incD) := ⟨_, _, rfl, rfl⟩
theorem decD : Statement (.decD) := ⟨_, _, rfl, rfl⟩
theorem rla : Statement (.rla) := ⟨_, _, rfl, rfl⟩
theorem addHlDe : Statement (.addHlDe) := ⟨_, _, rfl, rfl⟩
theorem ldAAtDe : Statement (.ldAAtDe) := ⟨_, _, rfl, rfl⟩
theorem decDe : Statement (.decDe) := ⟨_, _, rfl, rfl⟩
theorem incE : Statement (.incE) := ⟨_, _, rfl, rfl⟩
theorem decE : Statement (.decE) := ⟨_, _, rfl, rfl⟩
theorem rra : Statement (.rra) := ⟨_, _, rfl, rfl⟩
theorem ldAtHlIncA : Statement (.ldAtHlIncA) := ⟨_, _, rfl, rfl⟩
theorem incHl : Statement (.incHl) := ⟨_, _, rfl, rfl⟩
theorem incH : Statement (.incH) := ⟨_, _, rfl, rfl⟩
theorem decH : Statement (.decH) := ⟨_, _, rfl, rfl⟩
theorem daa : Statement (.daa) := ⟨_, _, rfl, rfl⟩
theorem addHlHl : Statement (.addHlHl) := ⟨_, _, rfl, rfl⟩
theorem ldAAtHlInc : Statement (.ldAAtHlInc) := ⟨_, _, rfl, rfl⟩
theorem decHl : Statement (.decHl) := ⟨_, _, rfl, rfl⟩
theorem incL : Statement (.incL) := ⟨_, _, rfl, rfl⟩
theorem decL : Statement (.decL) := ⟨_, _, rfl, rfl⟩
theorem cpl : Statement (.cpl) := ⟨_, _, rfl, rfl⟩
theorem ldAtHlDecA : Statement (.ldAtHlDecA) := ⟨_, _, rfl, rfl⟩
theorem incSp : Statement (.incSp) := ⟨_, _, rfl, rfl⟩
theorem incAtHl : Statement (.incAtHl) := ⟨_, _, rfl, rfl⟩
theorem decAtHl : Statement (.decAtHl) := ⟨_, _, rfl, rfl⟩
theorem scf : Statement (.scf) := ⟨_, _, rfl, rfl⟩
theorem addHlSp : Statement (.addHlSp) := ⟨_, _, rfl, rfl⟩
theorem ldAAtHlDec : Statement (.ldAAtHlDec) := ⟨_, _, rfl, rfl⟩
theorem decSp : Statement (.decSp) := ⟨_, _, rfl, rfl⟩
theorem incA : Statement (.incA) := ⟨_, _, rfl, rfl⟩
theorem decA : Statement (.decA) := ⟨_, _, rfl, rfl⟩
theorem ccf : Statement (.ccf) := ⟨_, _, rfl, rfl⟩
theorem ldBB : Statement (.ldBB) := ⟨_, _, rfl, rfl⟩
theorem ldBC : Statement (.ldBC) := ⟨_, _, rfl, rfl⟩
theorem ldBD : Statement (.ldBD) := ⟨_, _, rfl, rfl⟩
theorem ldBE : Statement (.ldBE) := ⟨_, _, rfl, rfl⟩
theorem ldBH : Statement (.ldBH) := ⟨_, _, rfl, rfl⟩
theorem ldBL : Statement (.ldBL) := ⟨_, _, rfl, rfl⟩
theorem ldBAtHl : Statement (.ldBAtHl) := ⟨_, _, rfl, rfl⟩
theorem ldBA : Statement (.ldBA) := ⟨_, _, rfl, rfl⟩
theorem ldCB : Statement (.ldCB) := ⟨_, _, rfl, rfl⟩
theorem ldCC : Statement (.ldCC) := ⟨_, _, rfl, rfl⟩
theorem ldCD : Statement (.ldCD) := ⟨_, _, rfl, rfl⟩
theorem ldCE : Statement (.ldCE) := ⟨_, _, rfl, rfl⟩
theorem ldCH : Statement (.ldCH) := ⟨_, _, rfl, rfl⟩
theorem ldCL : Statement (.ldCL) := ⟨_, _, rfl, rfl⟩
theorem ldCAtHl : Statement (.ldCAtHl) := ⟨_, _, rfl, rfl⟩
theorem ldCA : Statement (.ldCA) := ⟨_, _, rfl, rfl⟩
theorem ldDB : Statement (.ldDB) := ⟨_, _, rfl, rfl⟩
theorem ldDC : Statement (.ldDC) := ⟨_, _, rfl, rfl⟩
theorem ldDD : Statement (.ldDD) := ⟨_, _, rfl, rfl⟩
theorem ldDE : Statement (.ldDE) := ⟨_, _, rfl, rfl⟩
theorem ldDH : Statement (.ldDH) := ⟨_, _, rfl, rfl⟩
theorem ldDL : Statement (.ldDL) := ⟨_, _, rfl, rfl⟩
theorem ldDAtHl : Statement (.ldDAtHl) := ⟨_, _, rfl, rfl⟩
theorem ldDA : Statement (.ldDA) := ⟨_, _, rfl, rfl⟩
theorem ldEB : Statement (.ldEB) := ⟨_, _, rfl, rfl⟩
theorem ldEC : Statement (.ldEC) := ⟨_, _, rfl, rfl⟩
theorem ldED : Statement (.ldED) := ⟨_, _, rfl, rfl⟩
theorem ldEE : Statement (.ldEE) := ⟨_, _, rfl, rfl⟩
theorem ldEH : Statement (.ldEH) := ⟨_, _, rfl, rfl⟩
theorem ldEL : Statement (.ldEL) := ⟨_, _, rfl, rfl⟩
theorem ldEAtHl : Statement (.ldEAtHl) := ⟨_, _, rfl, rfl⟩
theorem ldEA : Statement (.ldEA) := ⟨_, _, rfl, rfl⟩
theorem ldHB : Statement (.ldHB) := ⟨_, _, rfl, rfl⟩
theorem ldHC : Statement (.ldHC) := ⟨_, _, rfl, rfl⟩
theorem ldHD : Statement (.ldHD) := ⟨_, _, rfl, rfl⟩
theorem ldHE : Statement (.ldHE) := ⟨_, _, rfl, rfl⟩
theorem ldHH : Statement (.ldHH) := ⟨_, _, rfl, rfl⟩
theorem ldHL : Statement (.ldHL) := ⟨_, _, rfl, rfl⟩
theorem ldHAtHl : Statement (.ldHAtHl) := ⟨_, _, rfl, rfl⟩
theorem ldHA : Statement (.ldHA) := ⟨_, _, rfl, rfl⟩
theorem ldLB : Statement (.ldLB) := ⟨_, _, rfl, rfl⟩
theorem ldLC : Statement (.ldLC) := ⟨_, _, rfl, rfl⟩
theorem ldLD : Statement (.ldLD) := ⟨_, _, rfl, rfl⟩
theorem ldLE : Statement (.ldLE) := ⟨_, _, rfl, rfl⟩
theorem ldLH : Statement (.ldLH) := ⟨_, _, rfl, rfl⟩
theorem ldLL : Statement (.ldLL) := ⟨_, _, rfl, rfl⟩
theorem ldLAtHl : Statement (.ldLAtHl) := ⟨_, _, rfl, rfl⟩
theorem ldLA : Statement (.ldLA) := ⟨_, _, rfl, rfl⟩
theorem ldAtHlB : Statement (.ldAtHlB) := ⟨_, _, rfl, rfl⟩
theorem ldAtHlC : Statement (.ldAtHlC) := ⟨_, _, rfl, rfl⟩
theorem ldAtHlD : Statement (.ldAtHlD) := ⟨_, _, rfl, rfl⟩
theorem ldAtHlE : Statement (.ldAtHlE) := ⟨_, _, rfl, rfl⟩
theorem ldAtHlH : Statement (.ldAtHlH) := ⟨_, _, rfl, rfl⟩
theorem ldAtHlL : Statement (.ldAtHlL) := ⟨_, _, rfl, rfl⟩
theorem halt : Statement (.halt) := ⟨_, _, rfl, rfl⟩
theorem ldAtHlA : Statement (.ldAtHlA) := ⟨_, _, rfl, rfl⟩
theorem ldAB : Statement (.ldAB) := ⟨_, _, rfl, rfl⟩
theorem ldAC : Statement (.ldAC) := ⟨_, _, rfl, rfl⟩
theorem ldAD : Statement (.ldAD) := ⟨_, _, rfl, rfl⟩
theorem ldAE : Statement (.ldAE) := ⟨_, _, rfl, rfl⟩
theorem ldAH : Statement (.ldAH) := ⟨_, _, rfl, rfl⟩
theorem ldAL : Statement (.ldAL) := ⟨_, _, rfl, rfl⟩
theorem ldAAtHl : Statement (.ldAAtHl) := ⟨_, _, rfl, rfl⟩
theorem ldAA : Statement (.ldAA) := ⟨_, _, rfl, rfl⟩
theorem addAB : Statement (.addAB) := ⟨_, _, rfl, rfl⟩
theorem addAC : Statement (.addAC) := ⟨_, _, rfl, rfl⟩
theorem addAD : Statement (.addAD) := ⟨_, _, rfl, rfl⟩
theorem addAE : Statement (.addAE) := ⟨_, _, rfl, rfl⟩
theorem addAH : Statement (.addAH) := ⟨_, _, rfl, rfl⟩
theorem addAL : Statement (.addAL) := ⟨_, _, rfl, rfl⟩
theorem addAAtHl : Statement (.addAAtHl) := ⟨_, _, rfl, rfl⟩
theorem addAA : Statement (.addAA) := ⟨_, _, rfl, rfl⟩
theorem adcAB : Statement (.adcAB) := ⟨_, _, rfl, rfl⟩
theorem adcAC : Statement (.adcAC) := ⟨_, _, rfl, rfl⟩
theorem adcAD : Statement (.adcAD) := ⟨_, _, rfl, rfl⟩
theorem adcAE : Statement (.adcAE) := ⟨_, _, rfl, rfl⟩
theorem adcAH : Statement (.adcAH) := ⟨_, _, rfl, rfl⟩
theorem adcAL : Statement (.adcAL) := ⟨_, _, rfl, rfl⟩
theorem adcAAtHl : Statement (.adcAAtHl) := ⟨_, _, rfl, rfl⟩
theorem adcAA : Statement (.adcAA) := ⟨_, _, rfl, rfl⟩
theorem subAB : Statement (.subAB) := ⟨_, _, rfl, rfl⟩
theorem subAC : Statement (.subAC) := ⟨_, _, rfl, rfl⟩
theorem subAD : Statement (.subAD) := ⟨_, _, rfl, rfl⟩
theorem subAE : Statement (.subAE) := ⟨_, _, rfl, rfl⟩
theorem subAH : Statement (.subAH) := ⟨_, _, rfl, rfl⟩
theorem subAL : Statement (.subAL) := ⟨_, _, rfl, rfl⟩
theorem subAAtHl : Statement (.subAAtHl) := ⟨_, _, rfl, rfl⟩
theorem subAA : Statement (.subAA) := ⟨_, _, rfl, rfl⟩
theorem sbcAB : Statement (.sbcAB) := ⟨_, _, rfl, rfl⟩
theorem sbcAC : Statement (.sbcAC) := ⟨_, _, rfl, rfl⟩
theorem sbcAD : Statement (.sbcAD) := ⟨_, _, rfl, rfl⟩
theorem sbcAE : Statement (.sbcAE) := ⟨_, _, rfl, rfl⟩
theorem sbcAH : Statement (.sbcAH) := ⟨_, _, rfl, rfl⟩
theorem sbcAL : Statement (.sbcAL) := ⟨_, _, rfl, rfl⟩
theorem sbcAAtHl : Statement (.sbcAAtHl) := ⟨_, _, rfl, rfl⟩
theorem sbcAA : Statement (.sbcAA) := ⟨_, _, rfl, rfl⟩
theorem andAB : Statement (.andAB) := ⟨_, _, rfl, rfl⟩
theorem andAC : Statement (.andAC) := ⟨_, _, rfl, rfl⟩
theorem andAD : Statement (.andAD) := ⟨_, _, rfl, rfl⟩
theorem andAE : Statement (.andAE) := ⟨_, _, rfl, rfl⟩
theorem andAH : Statement (.andAH) := ⟨_, _, rfl, rfl⟩
theorem andAL : Statement (.andAL) := ⟨_, _, rfl, rfl⟩
theorem andAAtHl : Statement (.andAAtHl) := ⟨_, _, rfl, rfl⟩
theorem andAA : Statement (.andAA) := ⟨_, _, rfl, rfl⟩
theorem xorAB : Statement (.xorAB) := ⟨_, _, rfl, rfl⟩
theorem xorAC : Statement (.xorAC) := ⟨_, _, rfl, rfl⟩
theorem xorAD : Statement (.xorAD) := ⟨_, _, rfl, rfl⟩
theorem xorAE : Statement (.xorAE) := ⟨_, _, rfl, rfl⟩
theorem xorAH : Statement (.xorAH) := ⟨_, _, rfl, rfl⟩
theorem xorAL : Statement (.xorAL) := ⟨_, _, rfl, rfl⟩
theorem xorAAtHl : Statement (.xorAAtHl) := ⟨_, _, rfl, rfl⟩
theorem xorAA : Statement (.xorAA) := ⟨_, _, rfl, rfl⟩
theorem orAB : Statement (.orAB) := ⟨_, _, rfl, rfl⟩
theorem orAC : Statement (.orAC) := ⟨_, _, rfl, rfl⟩
theorem orAD : Statement (.orAD) := ⟨_, _, rfl, rfl⟩
theorem orAE : Statement (.orAE) := ⟨_, _, rfl, rfl⟩
theorem orAH : Statement (.orAH) := ⟨_, _, rfl, rfl⟩
theorem orAL : Statement (.orAL) := ⟨_, _, rfl, rfl⟩
theorem orAAtHl : Statement (.orAAtHl) := ⟨_, _, rfl, rfl⟩
theorem orAA : Statement (.orAA) := ⟨_, _, rfl, rfl⟩
theorem cpAB : Statement (.cpAB) := ⟨_, _, rfl, rfl⟩
theorem cpAC : Statement (.cpAC) := ⟨_, _, rfl, rfl⟩
theorem cpAD : Statement (.cpAD) := ⟨_, _, rfl, rfl⟩
theorem cpAE : Statement (.cpAE) := ⟨_, _, rfl, rfl⟩
theorem cpAH : Statement (.cpAH) := ⟨_, _, rfl, rfl⟩
theorem cpAL : Statement (.cpAL) := ⟨_, _, rfl, rfl⟩
theorem cpAAtHl : Statement (.cpAAtHl) := ⟨_, _, rfl, rfl⟩
theorem cpAA : Statement (.cpAA) := ⟨_, _, rfl, rfl⟩
theorem retNz : Statement (.retNz) := ⟨_, _, rfl, rfl⟩
theorem popBc : Statement (.popBc) := ⟨_, _, rfl, rfl⟩
theorem pushBc : Statement (.pushBc) := ⟨_, _, rfl, rfl⟩
theorem rst00 : Statement (.rst00) := ⟨_, _, rfl, rfl⟩
theorem retZ : Statement (.retZ) := ⟨_, _, rfl, rfl⟩
theorem ret : Statement (.ret) := ⟨_, _, rfl, rfl⟩
theorem rst08 : Statement (.rst08) := ⟨_, _, rfl, rfl⟩
theorem retNc : Statement (.retNc) := ⟨_, _, rfl, rfl⟩
theorem popDe : Statement (.popDe) := ⟨_, _, rfl, rfl⟩
theorem undefinedD3 : Statement (.undefinedD3) := ⟨_, _, rfl, rfl⟩
theorem pushDe : Statement (.pushDe) := ⟨_, _, rfl, rfl⟩
theorem rst10 : Statement (.rst10) := ⟨_, _, rfl, rfl⟩
theorem retC : Statement (.retC) := ⟨_, _, rfl, rfl⟩
theorem reti : Statement (.reti) := ⟨_, _, rfl, rfl⟩
theorem undefinedDB : Statement (.undefinedDB) := ⟨_, _, rfl, rfl⟩
theorem undefinedDD : Statement (.undefinedDD) := ⟨_, _, rfl, rfl⟩
theorem rst18 : Statement (.rst18) := ⟨_, _, rfl, rfl⟩
theorem popHl : Statement (.popHl) := ⟨_, _, rfl, rfl⟩
theorem ldAtCA : Statement (.ldAtCA) := ⟨_, _, rfl, rfl⟩
theorem undefinedE3 : Statement (.undefinedE3) := ⟨_, _, rfl, rfl⟩
theorem undefinedE4 : Statement (.undefinedE4) := ⟨_, _, rfl, rfl⟩
theorem pushHl : Statement (.pushHl) := ⟨_, _, rfl, rfl⟩
theorem rst20 : Statement (.rst20) := ⟨_, _, rfl, rfl⟩
theorem jpHl : Statement (.jpHl) := ⟨_, _, rfl, rfl⟩
theorem undefinedEB : Statement (.undefinedEB) := ⟨_, _, rfl, rfl⟩
theorem undefinedEC : Statement (.undefinedEC) := ⟨_, _, rfl, rfl⟩
theorem undefinedED : Statement (.undefinedED) := ⟨_, _, rfl, rfl⟩
theorem rst28 : Statement (.rst28) := ⟨_, _, rfl, rfl⟩
theorem popAf : Statement (.popAf) := ⟨_, _, rfl, rfl⟩
theorem ldAAtC : Statement (.ldAAtC) := ⟨_, _, rfl, rfl⟩
theorem di : Statement (.di) := ⟨_, _, rfl, rfl⟩
theorem undefinedF4 : Statement (.undefinedF4) := ⟨_, _, rfl, rfl⟩
theorem pushAf : Statement (.pushAf) := ⟨_, _, rfl, rfl⟩
theorem rst30 : Statement (.rst30) := ⟨_, _, rfl, rfl⟩
theorem ldSpHl : Statement (.ldSpHl) := ⟨_, _, rfl, rfl⟩
theorem ei : Statement (.ei) := ⟨_, _, rfl, rfl⟩
theorem undefinedFC : Statement (.undefinedFC) := ⟨_, _, rfl, rfl⟩
theorem undefinedFD : Statement (.undefinedFD) := ⟨_, _, rfl, rfl⟩
theorem rst38 : Statement (.rst38) := ⟨_, _, rfl, rfl⟩

end Sys2Proof.Laws.EncodeLength
end

