-- ==== Sys2Proof/Tests/Slice0.lean ====
section
/-! SUPPORT. The model's own tests. Expected values are those of spec/95_test_vectors.md, named in each comment, or are
worked out by hand from the rule named there; a witness shows that a statement's hypotheses can be met together. -/

namespace Sys2Proof.Tests

open Sys2Proof Sys2Proof.Machine Sys2Proof.Claims

/-- The baseline of spec/95_test_vectors.md section 0 with some bytes of the RAM bus. -/
def boot (bytes : Memory) : State := { State.reset with bus := .ram bytes }

/-- Some fields of the state one step goes on to. -/
def after {α : Type} (s : State) (f : State → α) : Option α :=
  match step s with
  | .next t => some (f t)
  | _ => none

/-- The fault of one step. -/
def faultOf (s : State) : Option Fault :=
  match step s with
  | .fault r => some r
  | _ => none

/-! ## Well-formedness -/

/-- The decoder's own form of a CB byte is the CB map's instruction: the row PREFIX_CB is not well-formed. -/
theorem test_wellFormed_refuses_prefixCb : (Instr.prefixCb 0x37).wellFormed = false := by decide

theorem test_wellFormed_accepts :
    (Instr.nop).wellFormed = true ∧ (Instr.bit 7 .hlMem).wellFormed = true ∧
      (Instr.ldHlImm16 0xFFFF).wellFormed = true ∧ (Instr.undefinedFD).wellFormed = true := by decide

/-! ## Decoding words written out from the encodings of the rules named -/

/-- R100 `01yyyzzz`, R101 `01yyy110`, R103 `00yyy110 n`, R104, R109, R112, R115. -/
theorem test_decode_load8 :
    decodeInstr 0b01000001 0 0 = .ldBC ∧ decodeInstr 0b01100110 0 0 = .ldHAtHl ∧
      decodeInstr 0b00111110 0x42 0 = .ldAImm 0x42 ∧ decodeInstr 0b00110110 0x5A 0 = .ldAtHlImm 0x5A ∧
      decodeInstr 0b00101010 0 0 = .ldAAtHlInc ∧ decodeInstr 0b00110010 0 0 = .ldAtHlDecA ∧
      decodeInstr 0b11100010 0 0 = .ldAtCA := by decide

/-- R117 and R118 with their little-endian immediates, R113 and R114. -/
theorem test_decode_load8_absolute :
    decodeInstr 0b11101010 0x00 0xC1 = .ldAtImm16A 0xC100 ∧ decodeInstr 0b11111010 0x00 0xC1 = .ldAAtImm16 0xC100 ∧
      decodeInstr 0b11100000 0xFF 0 = .ldhAtImmA 0xFF ∧ decodeInstr 0b11110000 0x0F 0 = .ldhAAtImm 0x0F := by decide

/-- R130 `00pp0001 lo hi`, R131, R133, R134 `11pp0101`, R135 `11pp0001`. -/
theorem test_decode_load16 :
    decodeInstr 0b00110001 0xFF 0xDF = .ldSpImm16 0xDFFF ∧ decodeInstr 0b00001000 0x34 0x12 = .ldAtImm16Sp 0x1234 ∧
      decodeInstr 0b11111000 0x80 0 = .ldHlSpOff 0x80 ∧ decodeInstr 0b11110101 0 0 = .pushAf ∧
      decodeInstr 0b11010001 0 0 = .popDe := by decide

/-- R152 to R159: `10yyyzzz` and `11yyy110 n`; R160, R162, R164 to R168. -/
theorem test_decode_alu :
    decodeInstr 0b10000110 0 0 = .addAAtHl ∧ decodeInstr 0b10011111 0 0 = .sbcAA ∧
      decodeInstr 0b11101110 0x0F 0 = .xorAImm 0x0F ∧ decodeInstr 0b11110110 0x0F 0 = .orAImm 0x0F ∧
      decodeInstr 0b00110100 0 0 = .incAtHl ∧ decodeInstr 0b00000101 0 0 = .decB ∧
      decodeInstr 0b00110011 0 0 = .incSp ∧ decodeInstr 0b00101001 0 0 = .addHlHl ∧
      decodeInstr 0b11101000 0xFF 0 = .addSpOff 0xFF ∧ decodeInstr 0b00100111 0 0 = .daa := by decide

/-- R203, R205 to R215: `0xCB xxyyyzzz`. -/
theorem test_decode_rotate :
    decodeInstr 0b00011111 0 0 = .rra ∧ decodeInstr 0xCB 0b00000110 0 = .rlc .hlMem ∧
      decodeInstr 0xCB 0b00110111 0 = .swap .a ∧ decodeInstr 0xCB 0b00111000 0 = .srl .b ∧
      decodeInstr 0xCB 0b01011110 0 = .bit 3 .hlMem ∧ decodeInstr 0xCB 0b10000111 0 = .res 0 .a ∧
      decodeInstr 0xCB 0b11001011 0 = .set 1 .e := by decide

/-- R231, R234 to R236, R238 to R240. -/
theorem test_decode_control :
    decodeInstr 0b11010010 0x00 0x30 = .jpNcImm16 0x3000 ∧ decodeInstr 0b00111000 0x05 0 = .jrCOff 0x05 ∧
      decodeInstr 0b11001101 0x00 0x02 = .callImm16 0x0200 ∧ decodeInstr 0b11000100 0x00 0x40 = .callNzImm16 0x4000 ∧
      decodeInstr 0b11001000 0 0 = .retZ ∧ decodeInstr 0b11011001 0 0 = .reti ∧
      decodeInstr 0b11111111 0 0 = .rst38 ∧ decodeInstr 0b11101001 0 0 = .jpHl := by decide

/-- R260 to R264, R266; R80 (0x76 is HALT, not a load). -/
theorem test_decode_misc :
    decodeInstr 0b00000000 0 0 = .nop ∧ decodeInstr 0b11110011 0 0 = .di ∧ decodeInstr 0b11111011 0 0 = .ei ∧
      decodeInstr 0b01110110 0 0 = .halt ∧ decodeInstr 0b00010000 0 0 = .stop ∧
      decodeInstr 0xED 0 0 = .undefinedED := by decide

/-- R86: a list that ends inside an instruction gives none, by name. -/
theorem test_decode_truncated :
    decode [0xC3, 0x34] = .error (.truncated 0xC3) ∧ decode [] = .error .noBytes ∧
      decode [0xCB, 0x37, 0x76] = .ok (.swap .a, [0x76]) := by decide

/-! ## The HALT bug and the placing of an instruction -/

/-- STP-2, STP-3: under the bug the opcode is read again as the first operand byte. -/
theorem test_fetch_haltBug :
    ({ boot [(0x100, 0x3E), (0x101, 0x14)] with haltBug := true } : State).fetchInstr = .ldAImm 0x3E ∧
      ({ boot [(0x100, 0xCB)] with haltBug := true } : State).fetchInstr = .set 1 .e := by decide

/-- The very next step of a placed word runs it: `LD A,0x42` and `SWAP A` (MSC-10). -/
theorem test_withFetchWord :
    after (State.reset.withFetchWord 16 0x423E) (fun t => (t.a, t.pc)) = some (0x42, 0x102) ∧
      after ({ State.reset with a := 0xF0 }.withFetchWord 16 0x37CB) (fun t => (t.a, t.f)) = some (0x0F, 0x00) := by
  decide

/-- Placing makes a stopped, halted or locked core ready to fetch. -/
theorem test_withFetchWord_wakes :
    after ({ State.reset with halted := true, haltBug := true, locked := true, lockedOpcode := 0xD3 }.withFetchWord 8
      0x04) (fun t => (t.b, t.pc, t.halted)) = some (0x01, 0x101, false) := by decide

/-- Placing on another bus gives the core RAM to fetch from. -/
theorem test_withFetchWord_other_bus :
    after ({ State.reset with bus := .other 7 }.withFetchWord 8 0x04) (fun t => (t.b, t.pc)) = some (0x01, 0x101) := by
  decide

/-! ## A bus whose reads have side effects (00_scope.md R11, 20_memory.md R50, R55) -/

/-- The high byte of a word is read from the bus as the read of the low byte leaves it, on any bus. -/
theorem test_other_bus_peek16 (n : Nat) :
    ({ State.reset with bus := .other n } : State).peek16 0x8000 =
      joinBytes (Config.busRead (Config.busRead n 0x8000).2 0x8001).1 (Config.busRead n 0x8000).1 := rfl

/-- The poll's value of IF comes after the read of IE; `LD A,(BC)` reads its operand after its opcode; `INC (HL)` writes
after both. -/
theorem test_other_bus_order (n : Nat) :
    ({ State.reset with bus := .other n } : State).iflag = (Config.busRead (Config.busRead n 0xFFFF).2 0xFF0F).1 ∧
      (∃ t, exec .ldAAtBc { State.reset with bus := .other n } = .next t ∧
        t.a = (Config.busRead (Config.busRead n 0x0100).2 ((0x00 : Byte) ++ (0x13 : Byte))).1) ∧
      ∃ t, exec .incAtHl { State.reset with bus := .other n } = .next t ∧
        t.bus = .other (Config.busWrite (Config.busRead (Config.busRead n 0x0100).2 ((0x01 : Byte) ++ (0x4D : Byte))).2
          ((0x01 : Byte) ++ (0x4D : Byte))
          ((Config.busRead (Config.busRead n 0x0100).2 ((0x01 : Byte) ++ (0x4D : Byte))).1 + 1)) :=
  ⟨rfl, ⟨_, rfl, rfl⟩, ⟨_, rfl, rfl⟩⟩

/-! ## One step of each kind of instruction -/

/-- LD8-1. -/
theorem test_ld_b_c :
    after { boot [(0x100, 0x41)] with b := 0x12, c := 0x34 }
      (fun t => (t.b, t.pc, t.mCycles)) =
      some (0x34, 0x101, 1) := by decide

/-- LD8-5. -/
theorem test_ld_h_at_hl :
    after { boot [(0x100, 0x66), (0xC000, 0x5A)] with h := 0xC0, l := 0x00 }
      (fun t => (t.h, t.l, t.mCycles)) =
      some (0x5A, 0x00, 2) := by decide

/-- LD8-7. -/
theorem test_ld_at_hl_h :
    after { boot [(0x100, 0x74)] with h := 0xC0, l := 0x00 }
      (fun t => (t.peek 0xC000, t.mCycles)) =
      some (0xC0, 2) := by decide

/-- LD8-9. -/
theorem test_ld_at_hl_n :
    after { boot [(0x100, 0x36), (0x101, 0x5A)] with h := 0xC0, l := 0x01 }
      (fun t => (t.peek 0xC001, t.pc, t.mCycles)) =
      some (0x5A, 0x102, 3) := by decide

/-- LD8-10. -/
theorem test_ld_a_at_bc :
    after { boot [(0x100, 0x0A), (0xC123, 0x42)] with b := 0xC1, c := 0x23 }
      (fun t => (t.a, t.mCycles)) =
      some (0x42, 2) := by decide

/-- LD8-13. -/
theorem test_ld_at_de_a :
    after { boot [(0x100, 0x12)] with d := 0xD0, e := 0x00, a := 0x07 }
      (fun t => t.peek 0xD000) =
      some 0x07 := by decide

/-- LD8-17. -/
theorem test_ld_at_hlInc_a_wraps :
    after { boot [(0x100, 0x22)] with h := 0xFF, l := 0xFF, a := 0x77 }
      (fun t => (t.peek 0xFFFF, t.h, t.l)) =
      some (0x77, 0x00, 0x00) := by decide

/-- LD8-19. -/
theorem test_ld_at_hlDec_a_wraps :
    after { boot [(0x100, 0x32)] with h := 0x00, l := 0x00, a := 0x21 }
      (fun t => (t.peek 0x0, t.h, t.l)) =
      some (0x21, 0xFF, 0xFF) := by decide

/-- LD8-14. -/
theorem test_ld_a_at_hlInc :
    after { boot [(0x100, 0x2A), (0xC000, 0x11)] with h := 0xC0, l := 0x00 }
      (fun t => (t.a, t.l)) =
      some (0x11, 0x01) := by decide

/-- LD8-20. -/
theorem test_ldh_at_n_a :
    after { boot [(0x100, 0xE0), (0x101, 0xFF)] with a := 0x01 }
      (fun t => (t.peek 0xFFFF, t.mCycles)) =
      some (0x01, 3) := by decide

/-- LD8-23. -/
theorem test_ld_a_at_c :
    after { boot [(0x100, 0xF2), (0xFF80, 0x12)] with c := 0x80 }
      (fun t => (t.a, t.mCycles)) =
      some (0x12, 2) := by decide

/-- LD8-25. -/
theorem test_ld_a_at_nn :
    after (boot [(0x100, 0xFA), (0x102, 0xC1), (0xC100, 0x55)])
      (fun t => (t.a, t.pc, t.mCycles)) =
      some (0x55, 0x103, 4) := by decide

/-- LD16-2. -/
theorem test_ld_hl_nn :
    after (boot [(0x100, 0x21), (0x102, 0xC0)])
      (fun t => (t.h, t.l, t.mCycles)) =
      some (0xC0, 0x00, 3) := by decide

/-- LD16-5. -/
theorem test_ld_at_nn_sp_wraps :
    after { boot [(0x100, 0x08), (0x101, 0xFF), (0x102, 0xFF)] with sp := 0x1234 }
      (fun t => (t.peek 0xFFFF, t.peek 0x0, t.mCycles)) =
      some (0x34, 0x12, 5) := by decide

/-- LD16-6. -/
theorem test_ld_sp_hl :
    after { boot [(0x100, 0xF9)] with h := 0xD0, l := 0x00 }
      (fun t => (t.sp, t.mCycles)) =
      some (0xD000, 2) := by decide

/-- LD16-9. -/
theorem test_ld_hl_sp_off_flags :
    after { boot [(0x100, 0xF8), (0x101, 0xFF)] with f := 0x00, sp := 0x0005 }
      (fun t => (t.h, t.l, t.f, t.mCycles)) =
      some (0x00, 0x04, 0x30, 3) := by decide

/-- LD16-12. -/
theorem test_ld_hl_sp_off_neg128 :
    after { boot [(0x100, 0xF8), (0x101, 0x80)] with f := 0x00, sp := 0x0080 }
      (fun t => (t.h, t.l, t.f)) =
      some (0x00, 0x00, 0x10) := by decide

/-- LD16-15. -/
theorem test_push_de_wraps :
    after { boot [(0x100, 0xD5)] with d := 0xAB, e := 0xCD, sp := 0x0001 }
      (fun t => (t.peek 0xFFFF, t.peek 0x0, t.sp, t.mCycles)) =
      some (0xCD, 0xAB, 0xFFFF, 4) := by decide

/-- LD16-16. -/
theorem test_pop_af_masks :
    after { boot [(0x100, 0xF1), (0xFFFC, 0xFF), (0xFFFD, 0x12)] with sp := 0xFFFC }
      (fun t => (t.a, t.f, t.sp, t.mCycles)) =
      some (0x12, 0xF0, 0xFFFE, 3) := by decide

/-- LD16-18. -/
theorem test_pop_bc_wraps :
    after { boot [(0x0, 0x12), (0x100, 0xC1), (0xFFFF, 0x34)] with sp := 0xFFFF }
      (fun t => (t.b, t.c, t.sp)) =
      some (0x12, 0x34, 0x0001) := by decide

/-- BND-1. -/
theorem test_add_a_n :
    after { boot [(0x100, 0xC6), (0x101, 0x01)] with a := 0xFF, f := 0x00 }
      (fun t => (t.a, t.f, t.mCycles)) =
      some (0x00, 0xB0, 2) := by decide

/-- ALU-3. -/
theorem test_add_a_at_hl :
    after { boot [(0x100, 0x86), (0xC000, 0xFF)] with a := 0x01, f := 0x00, h := 0xC0, l := 0x00 }
      (fun t => (t.a, t.f, t.mCycles)) =
      some (0x00, 0xB0, 2) := by decide

/-- the grid of section 2.3, row ADC 00 FF 1. -/
theorem test_adc_a_n :
    after { boot [(0x100, 0xCE), (0x101, 0xFF)] with a := 0x00, f := 0x10 }
      (fun t => (t.a, t.f)) =
      some (0x00, 0xB0) := by decide

/-- BND-2. -/
theorem test_sub_a_n :
    after { boot [(0x100, 0xD6), (0x101, 0x01)] with a := 0x00, f := 0x00 }
      (fun t => (t.a, t.f)) =
      some (0xFF, 0x70) := by decide

/-- ALU-8. -/
theorem test_sbc_a_n_half_borrow :
    after { boot [(0x100, 0xDE)] with a := 0x10, f := 0x10 }
      (fun t => (t.a, t.f)) =
      some (0x0F, 0x60) := by decide

/-- ALU-6. -/
theorem test_sbc_a_a :
    after { boot [(0x100, 0x9F)] with a := 0x42, f := 0x10 }
      (fun t => (t.a, t.f)) =
      some (0xFF, 0x70) := by decide

/-- ALU-9. -/
theorem test_and_a_at_hl :
    after { boot [(0x100, 0xA6), (0xC000, 0x0F)] with a := 0xF0, f := 0x50, h := 0xC0, l := 0x00 }
      (fun t => (t.a, t.f)) =
      some (0x00, 0xA0) := by decide

/-- the grid of section 2.3, row XOR 3A C6 1. -/
theorem test_xor_a_n :
    after { boot [(0x100, 0xEE), (0x101, 0xC6)] with a := 0x3A, f := 0x10 }
      (fun t => (t.a, t.f)) =
      some (0xFC, 0x00) := by decide

/-- the grid of section 2.3, row OR 3A C6 1. -/
theorem test_or_a_n :
    after { boot [(0x100, 0xF6), (0x101, 0xC6)] with a := 0x3A, f := 0x10 }
      (fun t => (t.a, t.f)) =
      some (0xFE, 0x00) := by decide

/-- ALU-12. -/
theorem test_cp_a_at_hl :
    after { boot [(0x100, 0xBE), (0xC000, 0x3C)] with a := 0x3C, f := 0x00, h := 0xC0, l := 0x00 }
      (fun t => (t.a, t.f)) =
      some (0x3C, 0xC0) := by decide

/-- BND-4. -/
theorem test_inc_a_half_carry :
    after { boot [(0x100, 0x3C)] with a := 0x0F, f := 0x10 }
      (fun t => (t.a, t.f, t.mCycles)) =
      some (0x10, 0x30, 1) := by decide

/-- ALU-13. -/
theorem test_inc_at_hl :
    after { boot [(0x100, 0x34), (0xC000, 0xFF)] with f := 0x10, h := 0xC0, l := 0x00 }
      (fun t => (t.peek 0xC000, t.f, t.mCycles)) =
      some (0x00, 0xB0, 3) := by decide

/-- the INC and DEC table of section 2.3. -/
theorem test_dec_b :
    after { boot [(0x100, 0x05)] with b := 0x00, f := 0x10 }
      (fun t => (t.b, t.f)) =
      some (0xFF, 0x70) := by decide

/-- ALU-16. -/
theorem test_dec_at_hl :
    after { boot [(0x100, 0x35), (0xC000, 0x01)] with f := 0x10, h := 0xC0, l := 0x00 }
      (fun t => (t.peek 0xC000, t.f)) =
      some (0x00, 0xD0) := by decide

/-- ALU-18. -/
theorem test_inc_sp_wraps :
    after { boot [(0x100, 0x33)] with f := 0x00, sp := 0xFFFF }
      (fun t => (t.sp, t.f, t.mCycles)) =
      some (0x0000, 0x00, 2) := by decide

/-- ALU-20. -/
theorem test_dec_hl_wraps :
    after { boot [(0x100, 0x2B)] with h := 0x00, l := 0x00, f := 0xA0 }
      (fun t => (t.h, t.l, t.f)) =
      some (0xFF, 0xFF, 0xA0) := by decide

/-- ALU-22. -/
theorem test_add_hl_bc_bit11 :
    after { boot [(0x100, 0x09)] with h := 0x0F, l := 0xFF, b := 0x00, c := 0x01, f := 0x00 }
      (fun t => (t.h, t.l, t.f)) =
      some (0x10, 0x00, 0x20) := by decide

/-- ALU-21. -/
theorem test_add_hl_hl_keeps_z :
    after { boot [(0x100, 0x29)] with h := 0x80, l := 0x00, f := 0x80 }
      (fun t => (t.h, t.l, t.f)) =
      some (0x00, 0x00, 0x90) := by decide

/-- ALU-27. -/
theorem test_add_sp_off :
    after { boot [(0x100, 0xE8), (0x101, 0xFF)] with f := 0x00, sp := 0x0001 }
      (fun t => (t.sp, t.f, t.mCycles)) =
      some (0x0000, 0x30, 4) := by decide

/-- ALU-31. -/
theorem test_daa_after_add :
    after { boot [(0x100, 0x27)] with a := 0x9A, f := 0x00 }
      (fun t => (t.a, t.f)) =
      some (0x00, 0x90) := by decide

/-- ALU-33. -/
theorem test_daa_after_sub :
    after { boot [(0x100, 0x27)] with a := 0x00, f := 0x70 }
      (fun t => (t.a, t.f)) =
      some (0x9A, 0x50) := by decide

/-- ALU-38. -/
theorem test_cpl :
    after { boot [(0x100, 0x2F)] with a := 0x00, f := 0x90 }
      (fun t => (t.a, t.f)) =
      some (0xFF, 0xF0) := by decide

/-- ALU-39. -/
theorem test_scf :
    after { boot [(0x100, 0x37)] with f := 0xE0 }
      (fun t => t.f) =
      some 0x90 := by decide

/-- ALU-40. -/
theorem test_ccf :
    after { boot [(0x100, 0x3F)] with f := 0x70 }
      (fun t => t.f) =
      some 0x00 := by decide

/-- section 2.4, first table. -/
theorem test_rlca :
    after { boot [(0x100, 0x07)] with a := 0x80, f := 0x80 }
      (fun t => (t.a, t.f)) =
      some (0x01, 0x10) := by decide

/-- section 2.4, first table. -/
theorem test_rrca :
    after { boot [(0x100, 0x0F)] with a := 0x01, f := 0x90 }
      (fun t => (t.a, t.f)) =
      some (0x80, 0x10) := by decide

/-- section 2.4, first table. -/
theorem test_rla :
    after { boot [(0x100, 0x17)] with a := 0x01, f := 0x90 }
      (fun t => (t.a, t.f)) =
      some (0x03, 0x00) := by decide

/-- section 2.4, first table. -/
theorem test_rra :
    after { boot [(0x100, 0x1F)] with a := 0x01, f := 0x90 }
      (fun t => (t.a, t.f)) =
      some (0x80, 0x10) := by decide

/-- ROT-1. -/
theorem test_rlc_at_hl :
    after { boot [(0x100, 0xCB), (0x101, 0x06), (0xC000, 0x80)] with f := 0x00, h := 0xC0, l := 0x00 }
      (fun t => (t.peek 0xC000, t.f, t.mCycles)) =
      some (0x01, 0x10, 4) := by decide

/-- section 2.4, the CB table, B = A5 with C = 1. -/
theorem test_rrc_b :
    after { boot [(0x100, 0xCB), (0x101, 0x08)] with b := 0xA5, f := 0x10 }
      (fun t => (t.b, t.f, t.mCycles)) =
      some (0xD2, 0x10, 2) := by decide

/-- section 2.4, the CB table, B = A5 with C = 1. -/
theorem test_rl_b :
    after { boot [(0x100, 0xCB), (0x101, 0x10)] with b := 0xA5, f := 0x10 }
      (fun t => (t.b, t.f, t.mCycles)) =
      some (0x4B, 0x10, 2) := by decide

/-- section 2.4, the CB table, B = A5 with C = 1. -/
theorem test_rr_b :
    after { boot [(0x100, 0xCB), (0x101, 0x18)] with b := 0xA5, f := 0x10 }
      (fun t => (t.b, t.f, t.mCycles)) =
      some (0xD2, 0x10, 2) := by decide

/-- section 2.4, the CB table, B = A5 with C = 1. -/
theorem test_sla_b :
    after { boot [(0x100, 0xCB), (0x101, 0x20)] with b := 0xA5, f := 0x10 }
      (fun t => (t.b, t.f, t.mCycles)) =
      some (0x4A, 0x10, 2) := by decide

/-- section 2.4, the CB table, B = A5 with C = 1. -/
theorem test_sra_b :
    after { boot [(0x100, 0xCB), (0x101, 0x28)] with b := 0xA5, f := 0x10 }
      (fun t => (t.b, t.f, t.mCycles)) =
      some (0xD2, 0x10, 2) := by decide

/-- section 2.4, the CB table, B = A5 with C = 1. -/
theorem test_swap_b :
    after { boot [(0x100, 0xCB), (0x101, 0x30)] with b := 0xA5, f := 0x10 }
      (fun t => (t.b, t.f, t.mCycles)) =
      some (0x5A, 0x00, 2) := by decide

/-- section 2.4, the CB table, B = A5 with C = 1. -/
theorem test_srl_b :
    after { boot [(0x100, 0xCB), (0x101, 0x38)] with b := 0xA5, f := 0x10 }
      (fun t => (t.b, t.f, t.mCycles)) =
      some (0x52, 0x10, 2) := by decide

/-- ROT-7. -/
theorem test_bit_at_hl :
    after { boot [(0x100, 0xCB), (0x101, 0x5E), (0xC000, 0x08)] with f := 0xC0, h := 0xC0, l := 0x00 }
      (fun t => (t.f, t.peek 0xC000, t.mCycles)) =
      some (0x20, 0x08, 3) := by decide

/-- ROT-10. -/
theorem test_res_at_hl :
    after { boot [(0x100, 0xCB), (0x101, 0xBE), (0xC000, 0x80)] with f := 0xF0, h := 0xC0, l := 0x00 }
      (fun t => (t.peek 0xC000, t.f, t.mCycles)) =
      some (0x00, 0xF0, 4) := by decide

/-- ROT-11. -/
theorem test_set_at_hl :
    after { boot [(0x100, 0xCB), (0x101, 0xFE)] with f := 0x00, h := 0xC0, l := 0x00 }
      (fun t => (t.peek 0xC000, t.f)) =
      some (0x80, 0x00) := by decide

/-- SC-1. -/
theorem test_jp_nn :
    after (boot [(0x100, 0xC3), (0x101, 0x34), (0x102, 0x12)])
      (fun t => (t.pc, t.mCycles)) =
      some (0x1234, 4) := by decide

/-- CTL-2. -/
theorem test_jp_nn_fetch_wraps :
    after { boot [(0x1, 0x30), (0xFFFF, 0xC3)] with pc := 0xFFFF }
      (fun t => t.pc) =
      some 0x3000 := by decide

/-- CTL-3. -/
theorem test_jp_nz_not_taken :
    after { boot [(0x100, 0xC2), (0x102, 0x30)] with f := 0x80 }
      (fun t => (t.pc, t.mCycles)) =
      some (0x103, 3) := by decide

/-- CTL-7. -/
theorem test_jp_nc_taken :
    after { boot [(0x100, 0xD2), (0x102, 0x30)] with f := 0x00 }
      (fun t => (t.pc, t.mCycles)) =
      some (0x3000, 4) := by decide

/-- CTL-11. -/
theorem test_jp_hl :
    after { boot [(0x100, 0xE9)] with h := 0x40, l := 0x00 }
      (fun t => (t.pc, t.mCycles)) =
      some (0x4000, 1) := by decide

/-- CTL-13. -/
theorem test_jr_back :
    after (boot [(0x100, 0x18), (0x101, 0x80)])
      (fun t => (t.pc, t.mCycles)) =
      some (0x82, 3) := by decide

/-- CTL-14. -/
theorem test_jr_wraps :
    after { boot [(0xFFF0, 0x18), (0xFFF1, 0x7F)] with pc := 0xFFF0 }
      (fun t => t.pc) =
      some 0x71 := by decide

/-- SC-2. -/
theorem test_jr_nz_not_taken :
    after { boot [(0x100, 0x20), (0x101, 0x05)] with f := 0x80 }
      (fun t => (t.pc, t.mCycles)) =
      some (0x102, 2) := by decide

/-- SC-3. -/
theorem test_jr_nz_taken :
    after { boot [(0x100, 0x20), (0x101, 0x05)] with f := 0x00 }
      (fun t => (t.pc, t.mCycles)) =
      some (0x107, 3) := by decide

/-- SC-4. -/
theorem test_call_nn :
    after (boot [(0x100, 0xCD), (0x102, 0x02)])
      (fun t => (t.pc, t.sp, t.peek 0xFFFC, t.peek 0xFFFD, t.mCycles)) =
      some (0x200, 0xFFFC, 0x03, 0x01, 6) := by decide

/-- CTL-23. -/
theorem test_call_nz_wraps :
    after { boot [(0x100, 0xC4), (0x102, 0x40)] with f := 0x00, sp := 0x0001 }
      (fun t => (t.pc, t.peek 0xFFFF, t.peek 0x0)) =
      some (0x4000, 0x03, 0x01) := by decide

/-- CTL-24. -/
theorem test_ret :
    after { boot [(0x100, 0xC9), (0xFFFC, 0x03), (0xFFFD, 0x01)] with sp := 0xFFFC }
      (fun t => (t.pc, t.sp, t.mCycles)) =
      some (0x103, 0xFFFE, 4) := by decide

/-- CTL-25. -/
theorem test_ret_z_taken :
    after { boot [(0x100, 0xC8), (0xFFFC, 0x03), (0xFFFD, 0x01)] with f := 0x80, sp := 0xFFFC }
      (fun t => (t.pc, t.mCycles)) =
      some (0x103, 5) := by decide

/-- CTL-28. -/
theorem test_ret_c_not_taken :
    after { boot [(0x100, 0xD8), (0xFFFC, 0x03), (0xFFFD, 0x01)] with f := 0x00, sp := 0xFFFC }
      (fun t => (t.pc, t.sp, t.mCycles)) =
      some (0x101, 0xFFFC, 2) := by decide

/-- CTL-29. -/
theorem test_reti :
    after { boot [(0x100, 0xD9), (0xFFFC, 0x08), (0xFFFD, 0x01)] with sp := 0xFFFC }
      (fun t => (t.pc, t.ime, t.mCycles)) =
      some (0x108, true, 4) := by decide

/-- CTL-35. -/
theorem test_rst_28 :
    after { boot [(0x200, 0xEF)] with pc := 0x200 }
      (fun t => (t.pc, t.peek 0xFFFC, t.peek 0xFFFD, t.mCycles)) =
      some (0x28, 0x01, 0x02, 4) := by decide

/-- MSC-1. -/
theorem test_nop :
    after (boot [])
      (fun t => (t.pc, t.mCycles)) =
      some (0x101, 1) := by decide

/-- MSC-2. -/
theorem test_di :
    after { boot [(0x100, 0xF3)] with ime := true }
      (fun t => (t.ime, t.pc)) =
      some (false, 0x101) := by decide

/-- MSC-3. -/
theorem test_ei :
    after (boot [(0x100, 0xFB)])
      (fun t => (t.ime, t.imePending)) =
      some (false, true) := by decide

/-- MSC-5. -/
theorem test_halt_idle :
    after (boot [(0x100, 0x76), (0xFFFF, 0x01)])
      (fun t => (t.halted, t.haltBug, t.pc)) =
      some (true, false, 0x101) := by decide

/-- MSC-6. -/
theorem test_halt_arms_bug :
    after (boot [(0x100, 0x76), (0xFF0F, 0x01), (0xFFFF, 0x01)])
      (fun t => (t.halted, t.haltBug, t.pc)) =
      some (true, true, 0x101) := by decide

/-- MSC-9. -/
theorem test_stop_stopState :
    after (boot [(0x100, 0x10)])
      (fun t => (t.stopped, t.halted, t.pc)) =
      some (true, false, 0x101) := by decide

/-- STP-10. -/
theorem test_stop_asHalt :
    after { boot [(0x100, 0x10), (0xFFFF, 0x01)] with stopPolicy := .asHalt }
      (fun t => (t.stopped, t.halted, t.pc)) =
      some (false, true, 0x101) := by decide

/-- STP-8. -/
theorem test_undefined_nopWithWarning :
    after { boot [(0x100, 0xD3)] with unknownOpcodePolicy := .nopWithWarning }
      (fun t => (t.locked, t.pc, t.mCycles)) =
      some (false, 0x101, 1) := by decide

/-- MSC-11, STP-7: the fault, and the state a locked step leaves. -/
theorem test_undefined_locks :
    faultOf (boot [(0x100, 0xD3)]) = some (.unknownOpcode 0xD3 0x100
      { boot [(0x100, 0xD3)] with
        trace := [.read 0xFFFF, .read 0xFF0F, .read 0x100], pc := 0x101, locked := true, lockedOpcode := 0xD3
        lockedAddr := 0x100 }) := by decide

/-- STP-7, ACC-11: a locked step makes no access and faults again. -/
theorem test_locked_step :
    faultOf { State.reset with locked := true, lockedOpcode := 0xD3, lockedAddr := 0x100, pc := 0x101 } =
      some (.unknownOpcode 0xD3 0x100
        { State.reset with locked := true, lockedOpcode := 0xD3, lockedAddr := 0x100, pc := 0x101 }) := by decide

/-- STP-7 with a halted core that an interrupt wakes while IME is 0: halted is clear in the locked state (log entry 13). -/
theorem test_undefined_after_halt :
    faultOf { boot [(0x100, 0xD3), (0xFF0F, 1), (0xFFFF, 1)] with halted := true } = some (.unknownOpcode 0xD3 0x100
      { boot [(0x100, 0xD3), (0xFF0F, 1), (0xFFFF, 1)] with
        trace := [.read 0xFFFF, .read 0xFF0F, .read 0x100], pc := 0x101, locked := true, lockedOpcode := 0xD3
        lockedAddr := 0x100 }) := by decide

/-! ## The stepper -/

/-- SC-5. -/
theorem test_dispatch :
    after { boot [(0xFF0F, 0x01), (0xFFFF, 0x01)] with ime := true }
      (fun t => (t.pc, t.peek 0xFF0F, t.peek 0xFFFC, t.peek 0xFFFD, t.ime, t.mCycles)) =
      some (0x40, 0x00, 0x00, 0x01, false, 5) := by decide

/-- STP-5. -/
theorem test_dispatch_priority :
    after { boot [(0xFF0F, 0xFC), (0xFFFF, 0x1F)] with ime := true }
      (fun t => (t.pc, t.peek 0xFF0F)) =
      some (0x50, 0xF8) := by decide

/-- STP-11. -/
theorem test_dispatch_stack_on_if :
    after { boot [(0xFF0F, 0x01), (0xFFFF, 0x01)] with pc := 0x1234, ime := true, sp := 0xFF11 }
      (fun t => (t.pc, t.peek 0xFF0F, t.peek 0xFF10, t.sp)) =
      some (0x40, 0x34, 0x12, 0xFF0F) := by decide

/-- STP-1, step 3. -/
theorem test_dispatch_halt_bug :
    after { boot [(0xFF0F, 0x01), (0xFFFF, 0x01)] with pc := 0x102, ime := true, halted := true, haltBug := true }
      (fun t => (t.pc, t.peek 0xFFFC, t.haltBug, t.halted)) =
      some (0x40, 0x01, false, false) := by decide

/-- STP-14, step 2. -/
theorem test_dispatch_cancels_ei :
    after { boot [(0xFF0F, 0x02), (0xFFFF, 0x02)] with pc := 0x101, ime := true, imePending := true }
      (fun t => (t.pc, t.ime, t.imePending)) =
      some (0x48, false, false) := by decide

/-- SC-6, step 2. -/
theorem test_ei_commit :
    after { boot [(0xFF0F, 0x01), (0xFFFF, 0x01)] with pc := 0x101, imePending := true }
      (fun t => (t.ime, t.imePending, t.pc)) =
      some (true, false, 0x102) := by decide

/-- STP-4, step 2. -/
theorem test_ei_di :
    after { boot [(0x101, 0xF3), (0xFF0F, 0x01), (0xFFFF, 0x01)] with pc := 0x101, imePending := true }
      (fun t => (t.ime, t.imePending)) =
      some (false, false) := by decide

/-- STP-6: bits 7 to 5 never make an interrupt pending. -/
theorem test_halted_idle :
    after { boot [(0xFF0F, 0xE0), (0xFFFF, 0xE0)] with pc := 0x101, halted := true, ime := true }
      (fun t => (t.halted, t.pc, t.mCycles)) =
      some (true, 0x101, 1) := by decide

/-- STP-13, step 4. -/
theorem test_halted_wakes :
    after { boot [(0x151, 0x3C), (0xFF0F, 0x01), (0xFFFF, 0x01)] with pc := 0x151, halted := true }
      (fun t => (t.a, t.halted, t.pc)) =
      some (0x02, false, 0x152) := by decide

/-- STP-2, step 3. -/
theorem test_halt_bug_prefix :
    after { boot [(0x102, 0xCB), (0xFF0F, 0x01), (0xFFFF, 0x01)] with pc := 0x102, halted := true, haltBug := true }
      (fun t => (t.e, t.haltBug, t.pc, t.mCycles)) =
      some (0xDA, false, 0x103, 2) := by decide

/-- STP-9, step 2: an interrupt does not end a stop. -/
theorem test_stopped_step :
    after { boot [(0xFF0F, 0x01), (0xFFFF, 0x01)] with pc := 0x101, stopped := true, ime := true }
      (fun t => (t.pc, t.trace, t.mCycles)) =
      some (0x101, [], 1) := by decide

/-- ACC-2. -/
theorem test_trace_load :
    after (boot [(0x100, 0xFA), (0x102, 0xC1)])
      (fun t => t.trace) =
      some [.read 0xFFFF, .read 0xFF0F, .read 0x100, .read 0x101, .read 0x102, .read 0xC100] := by decide

/-- ACC-3. -/
theorem test_trace_set :
    after { boot [(0x100, 0xCB), (0x101, 0xC6)] with h := 0xC0, l := 0x00 }
      (fun t => t.trace) =
      some [.read 0xFFFF, .read 0xFF0F, .read 0x100, .read 0x101, .read 0xC000, .write 0xC000 0x01] := by decide

/-- ACC-4. -/
theorem test_trace_push :
    after { boot [(0x100, 0xC5)] with b := 0x12, c := 0x34 }
      (fun t => t.trace) =
      some [.read 0xFFFF, .read 0xFF0F, .read 0x100, .write 0xFFFC 0x34, .write 0xFFFD 0x12] := by decide

/-- ACC-5. -/
theorem test_trace_call :
    after (boot [(0x100, 0xCD), (0x102, 0x02)])
      (fun t => t.trace) =
      some [.read 0xFFFF, .read 0xFF0F, .read 0x100, .read 0x101, .read 0x102, .write 0xFFFC 0x03, .write 0xFFFD 0x01] := by decide

/-- ACC-6. -/
theorem test_trace_pop :
    after (boot [(0x100, 0xE1)])
      (fun t => t.trace) =
      some [.read 0xFFFF, .read 0xFF0F, .read 0x100, .read 0xFFFE, .read 0xFFFF] := by decide

/-- ACC-7. -/
theorem test_trace_halt :
    after (boot [(0x100, 0x76), (0xFFFF, 0x01)])
      (fun t => t.trace) =
      some [.read 0xFFFF, .read 0xFF0F, .read 0x100, .read 0xFFFF, .read 0xFF0F] := by decide

/-- ACC-8. -/
theorem test_trace_dispatch :
    after { boot [(0xFF0F, 0x01), (0xFFFF, 0x01)] with ime := true }
      (fun t => t.trace) =
      some [.read 0xFFFF, .read 0xFF0F, .write 0xFF0F 0x00, .write 0xFFFC 0x00, .write 0xFFFD 0x01] := by decide

/-- ACC-12. -/
theorem test_trace_ld_nn_sp :
    after (boot [(0x100, 0x08), (0x102, 0xC0)])
      (fun t => t.trace) =
      some [.read 0xFFFF, .read 0xFF0F, .read 0x100, .read 0x101, .read 0x102, .write 0xC000 0xFE, .write 0xC001 0xFF] := by decide

/-! ## Reset and the host -/

/-- The baseline of section 0 and STP-15. -/
theorem test_reset :
    (State.reset.af, State.reset.bc, State.reset.de, State.reset.hl) = (0x01B0, 0x0013, 0x00D8, 0x014D) ∧
      (State.reset.sp, State.reset.pc, State.reset.mCycles) = (0xFFFE, 0x0100, 0) ∧
      after (State.reset.resetTo .cold) (fun t => (t.pc, t.mCycles)) = some (0x0001, 1) := by decide

/-- R40: the offsets of the persisted record. -/
theorem test_save :
    State.reset.save = [0x01, 0xB0, 0x00, 0x13, 0x00, 0xD8, 0x01, 0x4D, 0xFE, 0xFF, 0x00, 0x01, 0, 0, 0, 0]
      ++ [0, 0, 0, 0, 0, 0, 0, 0] := by decide

/-! ## Witnesses: the hypotheses of the statements, met together -/

theorem test_witness_DecodeOfEncodeIsTheInstruction :
    (Instr.set 7 .hlMem).wellFormed = true ∧ decode (encode (.set 7 .hlMem) ++ [0x76]) = .ok (.set 7 .hlMem, [0x76]) ∧
      (Instr.jpImm16 0xFFFF).wellFormed = true ∧
      decode (encode (.jpImm16 0xFFFF) ++ []) = .ok (.jpImm16 0xFFFF, []) := by decide

theorem test_witness_LdRegisterToRegister : R8.a ≠ .hlMem ∧ R8.b ≠ .hlMem ∧ decodeLdR .a .b = .ldAB := by decide

theorem test_witness_LdRegisterAndMemoryAtHl :
    R8.h ≠ .hlMem ∧ decodeLdR .h .hlMem = .ldHAtHl ∧ decodeLdR .hlMem .h = .ldAtHlH := by decide

theorem test_witness_RestartPushesAndJumps : 0 < 8 ∧ 7 < 8 ∧ decodeRst 0 = .rst00 ∧ decodeRst 7 = .rst38 := by decide

/-- The largest sum and the largest borrow of two decimal digits. -/
theorem test_witness_DecimalAdjustMakesBcdArithmetic :
    99 < 100 ∧ ({ State.reset with a := 0x99 } : State).a = bcd 99 ∧
      (∃ t, exec (.addAImm (bcd 99)) { State.reset with a := 0x99 } = .next t) ∧
      ({ State.reset with a := 0x00 } : State).a = bcd 0 ∧
      ∃ t, exec (.subAImm (bcd 99)) { State.reset with a := 0x00 } = .next t :=
  ⟨by decide, by decide, ⟨_, rfl⟩, by decide, ⟨_, rfl⟩⟩

theorem test_witness_StopByPolicy :
    State.reset.stopPolicy = .stopState ∧ ({ State.reset with stopPolicy := .asHalt } : State).stopPolicy = .asHalt := by
  decide

theorem test_witness_CbByteRunsItsMapEntry :
    ({ boot [(0x100, 0xCB)] with haltBug := true } : State).haltBug = true ∧
      ({ boot [(0x100, 0xCB)] with haltBug := true } : State).peek 0x100 = 0xCB ∧
      ({ boot [(0x100, 0xCB)] with haltBug := true } : State).fetch1.peek 0x100 = 0xCB := by decide

theorem test_witness_UndefinedByteByPolicy :
    Instr.undefinedByte? .undefinedD3 = some 0xD3 ∧ Instr.undefinedByte? .undefinedFD = some 0xFD ∧
      State.reset.unknownOpcodePolicy = .lock ∧
      ({ State.reset with unknownOpcodePolicy := .nopWithWarning } : State).unknownOpcodePolicy = .nopWithWarning := by
  decide

theorem test_witness_FetchAdvancesPcButForHaltBug :
    State.reset.haltBug = false ∧ ({ State.reset with haltBug := true } : State).haltBug = true := by decide

/-- A running core, and a halted one that an interrupt wakes while IME is 0, with the HALT bug. -/
theorem test_witness_StepRunsTheDecodedInstruction :
    (let s := boot [(0x100, 0x04)]
      let u := afterPoll s
      Executes s ∧ Instr.incB.wellFormed = true ∧
        decodeInstr (u.peek u.pc) (u.fetch1.peek u.fetch1.pc) (u.fetch2.peek u.fetch2.pc) = .incB) ∧
      (let s : State := { boot [(0x100, 0x3E), (0xFF0F, 1), (0xFFFF, 1)] with
          halted := true, haltBug := true, imePending := true }
        let u := afterPoll s
        Executes s ∧ (Instr.ldAImm 0x3E).wellFormed = true ∧
          decodeInstr (u.peek u.pc) (u.fetch1.peek u.fetch1.pc) (u.fetch2.peek u.fetch2.pc) = .ldAImm 0x3E) :=
  ⟨⟨⟨by decide, by decide, by decide, by decide⟩, by decide, by decide⟩,
    ⟨by decide, by decide, by decide, by decide⟩, by decide, by decide⟩

/-- Source 0 and source 4. -/
theorem test_witness_StepDispatchesPendingInterrupt :
    (let s : State := { boot [(0xFF0F, 0xFF), (0xFFFF, 0xFF)] with ime := true };
      s.locked = false ∧ s.stopped = false ∧ s.ime = true ∧
        (s.peek 0xFFFF &&& (s.noteRead 0xFFFF).peek 0xFF0F &&& 0x1F).getLsbD 0 = true) ∧
      (let s : State := { boot [(0xFF0F, 0x10), (0xFFFF, 0x1F)] with ime := true, halted := true, haltBug := true };
        s.locked = false ∧ s.stopped = false ∧ s.ime = true ∧
          (s.peek 0xFFFF &&& (s.noteRead 0xFFFF).peek 0xFF0F &&& 0x1F).getLsbD 4 = true ∧
          ∀ j < 4, (s.peek 0xFFFF &&& (s.noteRead 0xFFFF).peek 0xFF0F &&& 0x1F).getLsbD j = false) := by decide

theorem test_witness_HaltedStepIdlesOrWakes :
    (let s : State := { boot [(0xFFFF, 1)] with halted := true };
      s.locked = false ∧ s.stopped = false ∧ s.halted = true ∧ s.pending = false) ∧
      (let s : State := { boot [(0xFF0F, 1), (0xFFFF, 1)] with halted := true };
        s.locked = false ∧ s.stopped = false ∧ s.halted = true ∧ s.pending = true) := by decide

theorem test_witness_StoppedStepOnlyDraws :
    ({ State.reset with stopped := true } : State).locked = false ∧
      ({ State.reset with stopped := true } : State).stopped = true := by decide

/-- A step that faults, and the step after it. -/
theorem test_witness_FaultLocksTheCoreForGood :
    (∃ t, faultOf (boot [(0x100, 0xFD)]) = some (.unknownOpcode 0xFD 0x100 t)) ∧
      ∃ t, faultOf { State.reset with locked := true, lockedOpcode := 0xFD } = some (.unknownOpcode 0xFD 0 t) :=
  ⟨⟨{ boot [(0x100, 0xFD)] with
        trace := [.read 0xFFFF, .read 0xFF0F, .read 0x100], pc := 0x101, locked := true, lockedOpcode := 0xFD
        lockedAddr := 0x100 }, by decide⟩,
    { State.reset with locked := true, lockedOpcode := 0xFD }, by decide⟩

/-- A locked core, an undefined byte under Lock, and a state that is neither. -/
theorem test_witness_OnlyUndefinedBytesFault :
    ({ State.reset with locked := true } : State).locked = true ∧
      (Executes (boot [(0x100, 0xFD)]) ∧ (boot [(0x100, 0xFD)]).unknownOpcodePolicy = .lock ∧
        undefinedBytes.contains ((afterPoll (boot [(0x100, 0xFD)])).peek (boot [(0x100, 0xFD)]).pc) = true) ∧
      State.reset.locked = false ∧ undefinedBytes.contains ((afterPoll State.reset).peek State.reset.pc) = false :=
  ⟨by decide, ⟨⟨by decide, by decide, by decide, by decide⟩, by decide, by decide⟩, by decide, by decide⟩

/-- EI, the step after EI, and DI. -/
theorem test_witness_EiTakesEffectOneStepLate :
    (Executes (boot [(0x100, 0xFB)]) ∧ (afterPoll (boot [(0x100, 0xFB)])).fetchInstr = .ei ∧
        after (boot [(0x100, 0xFB)]) (fun t => t.imePending) = some true) ∧
      (let s : State := { State.reset with imePending := true };
        s.ime = false ∧ s.imePending = true ∧ (afterPoll s).fetchInstr = .nop ∧ after s (fun t => t.ime) = some true) ∧
      Executes (boot [(0x100, 0xF3)]) ∧ (afterPoll (boot [(0x100, 0xF3)])).fetchInstr = .di ∧
      after (boot [(0x100, 0xF3)]) (fun t => t.imePending) = some false :=
  ⟨⟨⟨by decide, by decide, by decide, by decide⟩, by decide, by decide⟩, by decide,
    ⟨by decide, by decide, by decide, by decide⟩, by decide, by decide⟩

/-- IME raised by the commit and by RETI, and lowered by a dispatch and by DI. -/
theorem test_witness_OnlyEiAndRetiRaiseIme :
    after { State.reset with imePending := true } (fun t => t.ime) = some true ∧
      after (boot [(0x100, 0xD9)]) (fun t => t.ime) = some true ∧
      after { boot [(0xFF0F, 1), (0xFFFF, 1)] with ime := true } (fun t => t.ime) = some false ∧
      after { boot [(0x100, 0xF3)] with ime := true } (fun t => t.ime) = some false := by decide

/-- A step that goes on, and one that faults, from states that meet the invariant. -/
theorem test_witness_EveryStepKeepsInvariant :
    State.reset.Inv ∧ after State.reset (fun t => t.pc) = some 0x101 ∧ (boot [(0x100, 0xFD)]).Inv ∧
      faultOf (boot [(0x100, 0xFD)]) ≠ none := by decide

theorem test_witness_ResetMeetsInvariant : (boot [(0x100, 0xFD)]).bus.wf := by decide

theorem test_witness_ResetProfileValues : ResetProfile.cold = .cold ∧ ResetProfile.postBoot = .postBoot := by decide

/-- A store to RAM: the two bytes of a pushed word, and the bytes on either side of them. -/
theorem test_witness_MemoryFrame :
    State.reset.bus.isRam = true ∧ Instr.pushBc.wellFormed = true ∧ (∃ t, exec .pushBc State.reset = .next t) ∧
      Instr.pushBc.storeAddrs State.reset = [0xFFFC, 0xFFFD] ∧
      (0xFFFB : Word) ∉ Instr.pushBc.storeAddrs State.reset ∧ (0xFFFE : Word) ∉ Instr.pushBc.storeAddrs State.reset :=
  ⟨by decide, by decide, ⟨_, rfl⟩, by decide, by decide, by decide⟩

theorem test_witness_RegisterFrame :
    Instr.ldBC.wellFormed = true ∧ (∃ t, exec .ldBC State.reset = .next t) ∧ R8.c ∉ Instr.ldBC.destRegs ∧
      Instr.ldBC.writesSp = false :=
  ⟨by decide, ⟨_, rfl⟩, by decide, by decide⟩

theorem test_witness_FlagFrame :
    Instr.ldBC.wellFormed = true ∧ (∃ t, exec .ldBC State.reset = .next t) ∧
      Instr.ldBC.flagLine = ⟨.keep, .keep, .keep, .keep⟩ ∧ State.reset.f &&& 0x0F = 0 :=
  ⟨by decide, ⟨_, rfl⟩, by decide, by decide⟩

/-- An instruction that meets every clause's own condition. -/
theorem test_witness_ControlFrame :
    Instr.nop.wellFormed = true ∧ (∃ t, exec .nop State.reset = .next t) ∧ Instr.nop ≠ .di ∧ Instr.nop ≠ .reti ∧
      Instr.nop ≠ .ei ∧ Instr.nop ≠ .halt ∧ Instr.nop ≠ .stop ∧ Instr.nop.setsPc = false :=
  ⟨by decide, ⟨_, rfl⟩, by decide, by decide, by decide, by decide, by decide, by decide⟩

/-- The shortest and the longest count. -/
theorem test_witness_CyclesOfEveryInstructionAndStep :
    Instr.nop.mCycles State.reset = 1 ∧ (Instr.callImm16 0x200).mCycles State.reset = 6 ∧
      (∃ t, exec (.callImm16 0x200) State.reset = .next t) ∧
      after (boot [(0x100, 0xCD)]) (cyclesOf (boot [(0x100, 0xCD)])) = some 6 ∧
      after State.reset (cyclesOf State.reset) = some 1 :=
  ⟨by decide, by decide, ⟨_, rfl⟩, by decide, by decide⟩

/-- The wrap: a word at 0xFFFF lies at 0xFFFF and 0x0000. -/
theorem test_witness_WordStoreIsTwoBytesLowFirst :
    State.reset.bus.isRam = true ∧ (0x0001 : Word) ≠ 0xFFFF ∧ (0x0001 : Word) ≠ 0xFFFF + 1 ∧
      (State.reset.busWrite16 0xFFFF 0x1234).peek 0x0000 = 0x12 := by decide

theorem test_witness_PushThenPopRestores : State.reset.bus.isRam = true ∧ State.reset.f &&& 0x0F = 0 := by decide

/-- R40 byte by byte: bytes 14 (halted) and 15 (stopped) both nonzero restore both bits (log entry 14). -/
theorem test_restore_both_bits :
    (match State.reset.restore (State.reset.save.take 14 ++ [0x01, 0xFF] ++ State.reset.save.drop 16) with
      | .next t => t.halted && t.stopped
      | _ => false) = true := by decide

/-- R40: a restore into a locked core leaves it not locked (log entry 15). -/
theorem test_restore_unlocks :
    (match { State.reset with locked := true, lockedOpcode := 0xD3, lockedAddr := 0x0100 }.restore State.reset.save with
      | .next t => !t.locked && t.lockedOpcode == 0 && t.lockedAddr == 0
      | _ => false) = true := by decide

theorem test_witness_RequestInterruptSetsOneBit :
    0 < 5 ∧ 4 < 5 ∧ 5 ≤ 5 ∧ (boot [(0xFFFF, 0x10)]).bus.isRam = true ∧ (boot [(0xFFFF, 0x10)]).ie.getLsbD 4 = true ∧
      State.reset.requestInterrupt 5 = .refused (.badInterruptSource 5) :=
  ⟨by decide, by decide, by decide, by decide, by decide, rfl⟩

theorem test_witness_PersistedRecordRoundTrip :
    State.reset.f &&& 0x0F = 0 ∧ ([0, 0, 0] : List Byte).length ≠ 24 ∧ (State.reset.save ++ [0]).length ≠ 24 ∧
      (State.reset.save.drop 1).length ≠ 24 := by decide

end Sys2Proof.Tests
end

section
/-! The pair views of the registers (10_state.md R21) and the layout of F (R22, R25). -/

namespace Sys2Proof.Machine

open Sys2Proof

/-! ## F and its mask -/

/-- R25 over the naturals: the four shifted bits are disjoint, so their union is their sum. -/
theorem packF_eq_ofNat : ∀ z n h c : Bool,
    packF z n h c = BitVec.ofNat 8 (128 * z.toNat + 64 * n.toNat + 32 * h.toNat + 16 * c.toNat) := by
  decide

/-- The mask of F on a word's low byte is the mask 0xFFF0 on the word, since 0xFFF0 is 0xFF over 0xF0. -/
theorem joinBytes_maskF_loByte (v : Word) : joinBytes (hiByte v) (maskF (loByte v)) = v &&& 0xFFF0 := by
  calc joinBytes (hiByte v) (maskF (loByte v))
      = joinBytes (hiByte v &&& BitVec.allOnes 8) (loByte v &&& 0xF0) := by
        rw [BitVec.and_allOnes, maskF]
    _ = joinBytes (hiByte v) (loByte v) &&& joinBytes (BitVec.allOnes 8) 0xF0 := BitVec.and_append.symm
    _ = v &&& 0xFFF0 := by rw [joinBytes_halves]; rfl

/-- Reading F masks it again, which changes nothing after a masked write. -/
@[simp] theorem maskF_maskF (v : Byte) : maskF (maskF v) = maskF v := by
  simp only [maskF, BitVec.and_assoc, BitVec.and_self]

/-! ## A pair read after a write -/

@[simp] theorem State.setF_getF (s : State) (x : Byte) : (s.setF x).getF = maskF x := maskF_maskF x

@[simp] theorem State.setAf_getF (s : State) (v : Word) : (s.setAf v).getF = maskF (loByte v) :=
  maskF_maskF (loByte v)

theorem State.setAf_af (s : State) (v : Word) : (s.setAf v).af = v &&& 0xFFF0 := by
  rw [State.af, State.setAf_a, State.setAf_getF, joinBytes_maskF_loByte]

theorem State.setF_af (s : State) (x : Byte) : (s.setF x).af = s.a ++ (x &&& 0xF0) := by
  rw [State.af, State.setF_a, State.setF_getF, joinBytes, maskF]

theorem State.setRp_getRp_same (s : State) (p : Rp) (v : Word) : (s.setRp p v).getRp p = v := by
  cases p with
  | bc | de | hl => exact joinBytes_halves v
  | sp => rfl

theorem State.setRp_getRp_other (s : State) {p q : Rp} (v : Word) (h : p ≠ q) :
    (s.setRp p v).getRp q = s.getRp q := by
  cases p <;> cases q <;> simp [State.setRp, State.getRp, State.bc, State.de, State.hl] at h ⊢

/-- The pairs rp are independent: a write of one is seen through that one only. -/
theorem State.setRp_getRp (s : State) (p q : Rp) (v : Word) :
    (s.setRp p v).getRp q = if p = q then v else s.getRp q := by
  split
  next h => exact h ▸ s.setRp_getRp_same p v
  next h => exact s.setRp_getRp_other v h

/-- Settles O56: which halves a view reads and writes is its definition; what needs an argument is that the masks of F
compose, that two halves joined are the word, and that the pairs share no register. -/
theorem pairViewsAliasTheHalves : Obligations.PairViewsAliasTheHalves := by
  unfold Obligations.PairViewsAliasTheHalves
  constructor
  · intro s z n h c
    exact ⟨⟨rfl, rfl, rfl, rfl⟩, rfl, packF_eq_ofNat z n h c, maskF_low_nibble s.f, fun _ => rfl⟩
  · intro s v
    refine ⟨⟨rfl, rfl, rfl, rfl⟩, rfl, rfl, rfl, rfl, s.setAf_af v, fun p q => s.setRp_getRp p q v, fun x => ?_⟩
    exact ⟨rfl, rfl, rfl, rfl, rfl, rfl, rfl, s.setF_af x⟩

end Sys2Proof.Machine
end

section
/-! The decoder read backwards (30_encoding.md R88): each row of the opcode maps encodes to the bytes it was read from. -/

namespace Sys2Proof

/-! ## The fields of a byte and the tables by index -/

theorem fieldX_lt (op : Byte) : fieldX op < 4 := (op.extractLsb' 6 2).isLt

theorem fieldX_eq_three {op : Byte} (h0 : fieldX op ≠ 0) (h1 : fieldX op ≠ 1) (h2 : fieldX op ≠ 2) :
    fieldX op = 3 := by
  have := fieldX_lt op
  omega

theorem fieldY_lt (op : Byte) : fieldY op < 8 := (op.extractLsb' 3 3).isLt

theorem fieldZ_lt (op : Byte) : fieldZ op < 8 := (op.extractLsb' 0 3).isLt

/-- R71: a byte is its three fields. -/
theorem byteOfFields_fields (op : Byte) : byteOfFields (fieldX op) (fieldY op) (fieldZ op) = op := by
  apply BitVec.eq_of_toNat_eq
  simp only [byteOfFields, fieldX, fieldY, fieldZ, BitVec.extractLsb'_toNat, BitVec.toNat_ofNat,
    Nat.shiftRight_eq_div_pow]
  omega

theorem r8Index_r8OfIndex {n : Nat} (h : n < 8) : r8Index (r8OfIndex n) = n := by
  interval_cases n <;> rfl

theorem aluIndex_aluOfIndex {n : Nat} (h : n < 8) : aluIndex (aluOfIndex n) = n := by
  interval_cases n <;> rfl

theorem rotIndex_rotOfIndex {n : Nat} (h : n < 8) : rotIndex (rotOfIndex n) = n := by
  interval_cases n <;> rfl

/-! ## The CB map (R83)

The index of a table's entry, the bit number and x are the fields of the second byte again, so the encoder joins them to
that byte. -/

theorem decodeCb_wellFormed (op2 : Byte) : (decodeCb op2).wellFormed = true := by
  unfold decodeCb
  split
  · split <;> rfl
  all_goals rfl

theorem encode_decodeCb (op2 : Byte) : encode (decodeCb op2) = [0xCB, op2] := by
  have hop := byteOfFields_fields op2
  have hr := r8Index_r8OfIndex (fieldZ_lt op2)
  have hb : (BitVec.ofNat 3 (fieldY op2)).toNat = fieldY op2 := Nat.mod_eq_of_lt (fieldY_lt op2)
  have hrot := rotIndex_rotOfIndex (fieldY_lt op2)
  unfold decodeCb
  split
  case h_1 hx =>
    rw [hx, ← hrot] at hop
    generalize rotOfIndex (fieldY op2) = k at hop ⊢
    cases k <;> simpa only [encode, rotIndex, hr, List.cons.injEq, true_and, and_true] using hop
  case h_2 hx => simp only [encode, hb, hr, ← hx, hop]
  case h_3 hx => simp only [encode, hb, hr, ← hx, hop]
  case h_4 h0 h1 h2 =>
    have hx := fieldX_eq_three h0 h1 h2
    simp only [encode, hb, hr, ← hx, hop]

/-! ## The groups of the unprefixed map (R79 to R82) -/

/-- `i` is an instruction, and its bytes are as many of `op`, `b1`, `b2` as R86 gives the first byte `op`. -/
def ReadFrom (i : Instr) (op b1 b2 : Byte) : Prop :=
  i.wellFormed = true ∧ encode i = [op, b1, b2].take (opLength op)

theorem decodeCb_readFrom (op2 b2 : Byte) : ReadFrom (decodeCb op2) 0xCB op2 b2 :=
  ⟨decodeCb_wellFormed op2, encode_decodeCb op2⟩

theorem decodeLdR_readFrom (i j : R8) (b1 b2 : Byte) :
    ReadFrom (decodeLdR i j) (byteOfFields 1 (r8Index i) (r8Index j)) b1 b2 := by
  cases i <;> cases j <;> exact ⟨rfl, rfl⟩

theorem decodeAlu_readFrom (i : AluOp) (j : R8) (b1 b2 : Byte) :
    ReadFrom (decodeAlu i j) (byteOfFields 2 (aluIndex i) (r8Index j)) b1 b2 := by
  cases i <;> cases j <;> exact ⟨rfl, rfl⟩

/-- R79, row by row: 8 columns z of 8 rows y. -/
theorem decodeX0_readFrom {y z : Nat} (hy : y < 8) (hz : z < 8) (nn : Word) :
    ReadFrom (decodeX0 (byteOfFields 0 y z) (loByte nn) nn) (byteOfFields 0 y z) (loByte nn) (hiByte nn) := by
  interval_cases z <;> interval_cases y <;> exact ⟨rfl, rfl⟩

/-- R82, row by row; the row y=1 of the column z=3 is the prefix 0xCB, and its second byte is read by the CB map. -/
theorem decodeX3_readFrom {y z : Nat} (hy : y < 8) (hz : z < 8) (nn : Word) :
    ReadFrom (decodeX3 (byteOfFields 3 y z) (loByte nn) nn) (byteOfFields 3 y z) (loByte nn) (hiByte nn) := by
  rcases lt_trichotomy z 3 with hz3 | rfl | hz3
  · interval_cases z <;> interval_cases y <;> exact ⟨rfl, rfl⟩
  · rcases lt_trichotomy y 1 with hy1 | rfl | hy1
    · interval_cases y; exact ⟨rfl, rfl⟩
    · exact decodeCb_readFrom (loByte nn) (hiByte nn)
    · interval_cases y <;> exact ⟨rfl, rfl⟩
  · interval_cases z <;> interval_cases y <;> exact ⟨rfl, rfl⟩

theorem decodeInstr_readFrom (op b1 b2 : Byte) : ReadFrom (decodeInstr op b1 b2) op b1 b2 := by
  have hy := fieldY_lt op
  have hz := fieldZ_lt op
  have hop := byteOfFields_fields op
  unfold decodeInstr
  split
  case h_1 hx =>
    have h := decodeX0_readFrom hy hz (joinBytes b2 b1)
    rwa [← hx, hop, loByte_joinBytes, hiByte_joinBytes] at h
  case h_2 hx =>
    have h := decodeLdR_readFrom (r8OfIndex (fieldY op)) (r8OfIndex (fieldZ op)) b1 b2
    rwa [r8Index_r8OfIndex hy, r8Index_r8OfIndex hz, ← hx, hop] at h
  case h_3 hx =>
    have h := decodeAlu_readFrom (aluOfIndex (fieldY op)) (r8OfIndex (fieldZ op)) b1 b2
    rwa [aluIndex_aluOfIndex hy, r8Index_r8OfIndex hz, ← hx, hop] at h
  case h_4 h0 h1 h2 =>
    have hx := fieldX_eq_three h0 h1 h2
    have h := decodeX3_readFrom hy hz (joinBytes b2 b1)
    rwa [← hx, hop, loByte_joinBytes, hiByte_joinBytes] at h

/-- Settles O2: the decoder is a table over the fields of the first byte, and in each group of it the encoder gives
back the fields and the operand bytes. -/
theorem everyByteDecodesToOneRow : Obligations.EveryByteDecodesToOneRow := by
  unfold Obligations.EveryByteDecodesToOneRow
  exact decodeInstr_readFrom

end Sys2Proof
end

section
/-! What each instruction does, said once for all of them: the calls it makes, what it leaves, its flags, its M-cycles and
the control bits after it. The frames, the invariant and the facts about a step follow from it. -/

namespace Sys2Proof

open Sys2Proof.Machine

/-! ## The control bits an instruction may write (10_state.md section 4) -/

/-- The control bits of 10_state.md R28 to R32. -/
structure Control where
  ime : Bool
  imePending : Bool
  halted : Bool
  stopped : Bool
  haltBug : Bool

/-- The control bits of a state. -/
def Machine.State.control (s : State) : Control := ⟨s.ime, s.imePending, s.halted, s.stopped, s.haltBug⟩

/-- The state with other control bits. -/
def Machine.State.withControl (s : State) (k : Control) : State :=
  { s with ime := k.ime, imePending := k.imePending, halted := k.halted, stopped := k.stopped, haltBug := k.haltBug }

/-- The control bits a fetch leaves: halt_bug is clear (60_exceptions.md R309). -/
def Machine.State.fetchedControl (s : State) : Control := { s.control with haltBug := false }

/-- The control bits an instruction leaves (45_misc.md R261 to R264, 44_control.md R239). -/
def Instr.controlAfter (i : Instr) (s : State) : Control :=
  match i with
  | .di => { s.fetchedControl with ime := false, imePending := false }
  | .ei => { s.fetchedControl with imePending := true }
  | .reti => { s.fetchedControl with ime := true }
  | .halt => { s.fetchedControl with halted := true, haltBug := !s.ime && s.fetch1.pending }
  | .stop =>
    match s.stopPolicy with
    | .stopState => { s.fetchedControl with stopped := true }
    | .asHalt => { s.fetchedControl with halted := true }
  | _ => s.fetchedControl

/-! ## Flag lines (00_scope.md R15) -/

/-- The flags after an instruction are as its flag line says. -/
def FlagLine.Obeyed (s t : State) (L : FlagLine) : Prop :=
  L.z.allows s.flagZ t.flagZ ∧ L.n.allows s.flagN t.flagN ∧ L.h.allows s.flagH t.flagH ∧ L.c.allows s.flagC t.flagC ∧
    (L = ⟨.keep, .keep, .keep, .keep⟩ → t.f = s.f) ∧ (s.f &&& 0x0F = 0 → t.f &&& 0x0F = 0)

theorem FlagLine.Obeyed.of_f_eq {s t : State} (h : t.f = s.f) : FlagLine.Obeyed s t ⟨.keep, .keep, .keep, .keep⟩ := by
  simp [FlagLine.Obeyed, FlagEffect.allows, State.flagZ, State.flagN, State.flagH, State.flagC, h]

theorem FlagLine.Obeyed.of_packF {L : FlagLine} {s t : State} {z n h c : Bool} (hf : t.f = packF z n h c)
    (hz : L.z.allows s.flagZ z) (hn : L.n.allows s.flagN n) (hh : L.h.allows s.flagH h) (hc : L.c.allows s.flagC c)
    (hL : L ≠ ⟨.keep, .keep, .keep, .keep⟩) : L.Obeyed s t := by
  obtain ⟨bz, bn, bh, bc⟩ := packF_bits z n h c
  unfold FlagLine.Obeyed State.flagZ State.flagN State.flagH State.flagC
  rw [hf, bz, bn, bh, bc]
  exact ⟨hz, hn, hh, hc, fun e => absurd e hL, fun _ => packF_low_nibble z n h c⟩

/-- The flag line of the rows of an ALU operation (42_alu.md R152 to R159). -/
def aluFlagLine (op : AluOp) : FlagLine :=
  match op with
  | .add | .adc => ⟨.computed, .clear, .computed, .computed⟩
  | .sub | .sbc | .cp => ⟨.computed, .set, .computed, .computed⟩
  | .and => ⟨.computed, .clear, .set, .clear⟩
  | .xor | .or => ⟨.computed, .clear, .clear, .clear⟩

theorem applyAlu_flags {s u t : State} (op : AluOp) (v : Byte) (ht : t.f = (u.applyAlu op v).f) :
    (aluFlagLine op).Obeyed s t := by
  cases op with
  | add | adc | sub | sbc | cp => exact .of_packF ht trivial rfl trivial trivial (by decide)
  | and | xor | or => exact .of_packF ht trivial rfl rfl rfl (by decide)

theorem aluR_flags (op : AluOp) (r : R8) (n : Nat) (s : State) : (aluFlagLine op).Obeyed s (aluR op r n s) :=
  applyAlu_flags (u := s.fetch1.touchR r) op (s.fetch1.getR r) rfl

theorem aluImm_flags (op : AluOp) (v : Byte) (s : State) : (aluFlagLine op).Obeyed s (aluImm op v s) :=
  applyAlu_flags (u := s.fetch2) op v rfl

/-- SWAP clears C; the other rotates and shifts compute it (43_rotate_bit.md R205 to R212). -/
def rotFlagLine (op : RotOp) : FlagLine :=
  match op with
  | .swap => ⟨.computed, .clear, .clear, .clear⟩
  | .rlc | .rrc | .rl | .rr | .sla | .sra | .srl => ⟨.computed, .clear, .clear, .computed⟩

theorem cbRot_flags (op : RotOp) (r : R8) (s : State) : (rotFlagLine op).Obeyed s (cbRot op r s) := by
  cases op with
  | swap => exact .of_packF rfl trivial rfl rfl rfl (by decide)
  | rlc | rrc | rl | rr | sla | sra | srl => exact .of_packF rfl trivial rfl rfl trivial (by decide)

theorem accRot_flags (op : RotOp) (s : State) :
    FlagLine.Obeyed s (accRot op s) ⟨.clear, .clear, .clear, .computed⟩ :=
  .of_packF rfl rfl rfl rfl trivial (by decide)

theorem cbBit_flags (b : BitVec 3) (r : R8) (s : State) :
    FlagLine.Obeyed s (cbBit b r s) ⟨.computed, .clear, .set, .keep⟩ :=
  .of_packF rfl trivial rfl rfl rfl (by decide)

theorem incR_flags (r : R8) (n : Nat) (s : State) :
    FlagLine.Obeyed s (incR r n s) ⟨.computed, .clear, .computed, .keep⟩ :=
  .of_packF rfl trivial rfl trivial rfl (by decide)

theorem decR_flags (r : R8) (n : Nat) (s : State) :
    FlagLine.Obeyed s (decR r n s) ⟨.computed, .set, .computed, .keep⟩ :=
  .of_packF rfl trivial rfl trivial rfl (by decide)

theorem addHl_flags (p : Rp) (s : State) : FlagLine.Obeyed s (addHl p s) ⟨.keep, .clear, .computed, .computed⟩ :=
  .of_packF rfl rfl rfl trivial trivial (by decide)

theorem addSp_flags (e : Byte) (s : State) : FlagLine.Obeyed s (addSp e s) ⟨.clear, .clear, .computed, .computed⟩ :=
  .of_packF rfl rfl rfl trivial trivial (by decide)

theorem ldHlSpOff_flags (e : Byte) (s : State) :
    FlagLine.Obeyed s (ldHlSpOff e s) ⟨.clear, .clear, .computed, .computed⟩ :=
  .of_packF rfl rfl rfl trivial trivial (by decide)

theorem daa_flags (s : State) : FlagLine.Obeyed s (daa s) ⟨.computed, .keep, .clear, .computed⟩ :=
  .of_packF rfl trivial rfl rfl trivial (by decide)

theorem cpl_flags (s : State) : FlagLine.Obeyed s (cpl s) ⟨.keep, .set, .set, .keep⟩ :=
  .of_packF rfl rfl rfl rfl rfl (by decide)

theorem scf_flags (s : State) : FlagLine.Obeyed s (scf s) ⟨.keep, .clear, .clear, .set⟩ :=
  .of_packF rfl rfl rfl rfl rfl (by decide)

theorem ccf_flags (s : State) : FlagLine.Obeyed s (ccf s) ⟨.keep, .clear, .clear, .computed⟩ :=
  .of_packF rfl rfl rfl rfl trivial (by decide)

/-- POP AF loads every flag and masks F (41_load16.md R135). -/
theorem popAf_flags (s : State) :
    FlagLine.Obeyed s (popPair .af s) ⟨.computed, .computed, .computed, .computed⟩ :=
  ⟨trivial, trivial, trivial, trivial, fun e => absurd e (by decide), fun _ => maskF_low_nibble _⟩

/-! ## The meanings that leave F -/

theorem ldR_f (dst src : R8) (n : Nat) (s : State) : (ldR dst src n s).f = s.f := by simp [ldR, State.fetch1]

theorem cbRes_f (b : BitVec 3) (r : R8) (s : State) : (cbRes b r s).f = s.f := by simp [cbRes, State.fetch2]

theorem cbSet_f (b : BitVec 3) (r : R8) (s : State) : (cbSet b r s).f = s.f := by simp [cbSet, State.fetch2]

theorem incPair_f (p : Rp) (s : State) : (incPair p s).f = s.f := by simp [incPair, State.fetch1]

theorem decPair_f (p : Rp) (s : State) : (decPair p s).f = s.f := by simp [decPair, State.fetch1]

theorem ldRpImm_f (p : Rp) (nn : Word) (s : State) : (ldRpImm p nn s).f = s.f := by simp [ldRpImm, State.fetch3]

theorem jpCc_f (cc : Cc) (nn : Word) (s : State) : (jpCc cc nn s).f = s.f := by unfold jpCc; split <;> rfl

theorem jrCc_f (cc : Cc) (e : Byte) (s : State) : (jrCc cc e s).f = s.f := by unfold jrCc; split <;> rfl

theorem callCc_f (cc : Cc) (nn : Word) (s : State) : (callCc cc nn s).f = s.f := by unfold callCc; split <;> rfl

theorem retCc_f (cc : Cc) (s : State) : (retCc cc s).f = s.f := by unfold retCc; split <;> rfl

/-! ## The rule of each row -/

/-- How many bytes after its opcode byte an instruction that does not jump leaves PC. -/
def Instr.bytesAfterOpcode (i : Instr) : Option Nat := if i.setsPc then none else some ((encode i).length - 1)

/-- Everything the row of `i` says of the state `t` that `i` leaves, but for the values it computes. -/
structure Obeys (i : Instr) (s t : State) : Prop where
  calls : Calls s t (i.storeAddrs s)
  regs : ∀ r, r ≠ .hlMem → r ∉ i.destRegs → t.getR r = s.getR r
  sp : i.writesSp = false → t.sp = s.sp
  pc : i.setsPc = false →
    t.pc = (if s.haltBug then s.pc else s.pc + 1) + BitVec.ofNat 16 ((encode i).length - 1)
  cycles : t.mCycles = s.mCycles + BitVec.ofNat 64 (i.mCycles s)
  flags : i.flagLine.Obeyed s t
  control : t.control = i.controlAfter s
  kept : (t.locked, t.lockedOpcode, t.lockedAddr, t.unknownOpcodePolicy, t.stopPolicy, t.stopDraws) =
    (s.locked, s.lockedOpcode, s.lockedAddr, s.unknownOpcodePolicy, s.stopPolicy, s.stopDraws)

/-- `i` ends in the state `u` but for the control bits, which it leaves as `controlAfter` says. -/
theorem Obeys.of_control {i : Instr} {s t u : State} (h : exec i s = .next t)
    (ht : exec i s = .next (u.withControl (i.controlAfter s)))
    (e : Effect s u i.destRegs (i.storeAddrs s) i.writesSp i.bytesAfterOpcode (i.mCycles s))
    (f : i.flagLine.Obeyed s u) : Obeys i s t := by
  cases h.symm.trans ht
  obtain ⟨calls, regs, sp, pc, cycles, control, -⟩ := e
  simp only [Prod.mk.injEq] at control
  exact {
    calls, sp, cycles, flags := f, control := rfl
    regs := fun r h1 h2 => (by cases r <;> rfl : _ = u.getR r).trans (regs r h1 h2)
    pc := fun hp => pc _ (by simp [Instr.bytesAfterOpcode, hp])
    kept := by simpa [State.withControl] using control.2 }

/-- `i` ends in the state `u`, having written no control bit but by its fetch. -/
theorem Obeys.of_effect {i : Instr} {s t u : State} (h : exec i s = .next t) (ht : exec i s = .next u)
    (hi : i.controlAfter s = s.fetchedControl)
    (e : Effect s u i.destRegs (i.storeAddrs s) i.writesSp i.bytesAfterOpcode (i.mCycles s))
    (f : i.flagLine.Obeyed s u) : Obeys i s t := by
  refine .of_control h ?_ e f
  obtain ⟨-, -, -, -, -, control, hime, hpend, hhalt, hbug⟩ := e
  simp only [Prod.mk.injEq] at control
  rw [ht, hi, State.fetchedControl, State.control, ← hime, ← hpend, ← hhalt, ← control.1, ← hbug]
  rfl

/-- STOP changes one control bit, by the policy (45_misc.md R264). -/
theorem exec_stop (s : State) : exec .stop s = .next ((nop s).withControl (Instr.controlAfter .stop s)) := by
  unfold Instr.controlAfter
  change Host.Outcome.next (stop s) = _
  unfold stop
  cases h : s.stopPolicy <;> rfl

/-- HALT's fetch and poll (45_misc.md R263). -/
theorem fetch_poll_effect (s : State) : Effect s (s.fetch1.poll.tick 1) [] [] false (some 0) 1 := by
  refine ⟨((Calls.fetch1 s _).read _).read _, ?_, fun _ => rfl, pc_after1 rfl, rfl, rfl, rfl, rfl, rfl, rfl⟩
  intro r h1 _
  cases r <;> first | rfl | exact absurd rfl h1

/-- The one way an undefined byte goes on (45_misc.md R266). -/
theorem undefinedByte_next {op : Byte} {s t : State} (h : undefinedByte op s = .next t) :
    undefinedByte op s = .next (nop s) := by
  obtain ⟨-, hf⟩ | ⟨-, hn⟩ := undefinedByte_cases op s
  · exact nomatch hf.symm.trans h
  · exact hn

/-- The byte at HL is no register: a meaning that may write it alone writes none. -/
theorem Machine.Effect.no_register {s t : State} {addrs : List Word} {sp : Bool} {len : Option Nat} {n : Nat}
    (e : Effect s t [.hlMem] addrs sp len n) : Effect s t [] addrs sp len n :=
  { e with regs := fun r h1 _ => e.regs r h1 (by simpa using h1) }

/-- Every instruction obeys its row: one line for each shared meaning, that of the 8-bit loads last. -/
theorem exec_obeys {i : Instr} {s t : State} (hw : i.wellFormed = true) (h : exec i s = .next t) : Obeys i s t := by
  cases i with
  | ldBImm n | ldCImm n | ldDImm n | ldEImm n | ldHImm n | ldLImm n | ldAImm n =>
    exact .of_effect h rfl rfl (ldRImm_effect _ _ _ s) (.of_f_eq rfl)
  | ldAtHlImm n => exact .of_effect h rfl rfl (ldRImm_effect .hlMem n 3 s).no_register (.of_f_eq rfl)
  | ldAtBcA | ldAtDeA | ldAtCA => exact .of_effect h rfl rfl (storeA_fetch1_effect _ 2 s) (.of_f_eq rfl)
  | ldhAtImmA n => exact .of_effect h rfl rfl (storeA_fetch2_effect _ 3 s) (.of_f_eq rfl)
  | ldAtImm16A nn => exact .of_effect h rfl rfl (storeA_fetch3_effect _ 4 s) (.of_f_eq rfl)
  | ldAAtBc | ldAAtDe | ldAAtC => exact .of_effect h rfl rfl (loadA_fetch1_effect _ 2 s) (.of_f_eq rfl)
  | ldhAAtImm n => exact .of_effect h rfl rfl (loadA_fetch2_effect _ 3 s) (.of_f_eq rfl)
  | ldAAtImm16 nn => exact .of_effect h rfl rfl (loadA_fetch3_effect _ 4 s) (.of_f_eq rfl)
  | ldAtHlIncA | ldAtHlDecA => exact .of_effect h rfl rfl (storeAHl_effect _ s) (.of_f_eq rfl)
  | ldAAtHlInc | ldAAtHlDec => exact .of_effect h rfl rfl (loadAHl_effect _ s) (.of_f_eq rfl)
  | ldBcImm16 nn | ldDeImm16 nn | ldHlImm16 nn | ldSpImm16 nn =>
    exact .of_effect h rfl rfl (ldRpImm_effect _ nn s) (.of_f_eq (ldRpImm_f _ nn s))
  | ldAtImm16Sp nn => exact .of_effect h rfl rfl (ldNnSp_effect nn s) (.of_f_eq rfl)
  | ldSpHl => exact .of_effect h rfl rfl (ldSpHl_effect s) (.of_f_eq rfl)
  | ldHlSpOff e => exact .of_effect h rfl rfl (ldHlSpOff_effect e s) (ldHlSpOff_flags e s)
  | addSpOff e => exact .of_effect h rfl rfl (addSp_effect e s) (addSp_flags e s)
  | pushBc | pushDe | pushHl | pushAf => exact .of_effect h rfl rfl (pushPair_effect _ s) (.of_f_eq rfl)
  | popBc | popDe | popHl => exact .of_effect h rfl rfl (popPair_effect _ s) (.of_f_eq rfl)
  | popAf => exact .of_effect h rfl rfl (popPair_effect .af s) (popAf_flags s)
  | addAB | addAC | addAD | addAE | addAH | addAL | addAAtHl | addAA | adcAB | adcAC | adcAD | adcAE
    | adcAH | adcAL | adcAAtHl | adcAA | subAB | subAC | subAD | subAE | subAH | subAL | subAAtHl | subAA
    | sbcAB | sbcAC | sbcAD | sbcAE | sbcAH | sbcAL | sbcAAtHl | sbcAA | andAB | andAC | andAD | andAE
    | andAH | andAL | andAAtHl | andAA | xorAB | xorAC | xorAD | xorAE | xorAH | xorAL | xorAAtHl | xorAA
    | orAB | orAC | orAD | orAE | orAH | orAL | orAAtHl | orAA =>
    exact .of_effect h rfl rfl (aluR_effect _ _ _ s) (aluR_flags _ _ _ s)
  | cpAB | cpAC | cpAD | cpAE | cpAH | cpAL | cpAAtHl | cpAA =>
    exact .of_effect h rfl rfl (aluR_cp_effect _ _ s) (aluR_flags .cp _ _ s)
  | addAImm n | adcAImm n | subAImm n | sbcAImm n | andAImm n | xorAImm n | orAImm n =>
    exact .of_effect h rfl rfl (aluImm_effect _ n s) (aluImm_flags _ n s)
  | cpAImm n => exact .of_effect h rfl rfl (aluImm_cp_effect n s) (aluImm_flags .cp n s)
  | incB | incC | incD | incE | incH | incL | incA =>
    exact .of_effect h rfl rfl (incR_effect _ _ s) (incR_flags _ _ s)
  | decB | decC | decD | decE | decH | decL | decA =>
    exact .of_effect h rfl rfl (decR_effect _ _ s) (decR_flags _ _ s)
  | incAtHl => exact .of_effect h rfl rfl (incR_effect .hlMem 3 s).no_register (incR_flags _ _ s)
  | decAtHl => exact .of_effect h rfl rfl (decR_effect .hlMem 3 s).no_register (decR_flags _ _ s)
  | incBc | incDe | incHl | incSp => exact .of_effect h rfl rfl (incPair_effect _ s) (.of_f_eq (incPair_f _ s))
  | decBc | decDe | decHl | decSp => exact .of_effect h rfl rfl (decPair_effect _ s) (.of_f_eq (decPair_f _ s))
  | addHlBc | addHlDe | addHlHl | addHlSp => exact .of_effect h rfl rfl (addHl_effect _ s) (addHl_flags _ s)
  | daa => exact .of_effect h rfl rfl (daa_effect s) (daa_flags s)
  | cpl => exact .of_effect h rfl rfl (cpl_effect s) (cpl_flags s)
  | scf => exact .of_effect h rfl rfl (scf_effect s) (scf_flags s)
  | ccf => exact .of_effect h rfl rfl (ccf_effect s) (ccf_flags s)
  | rlca | rrca | rla | rra => exact .of_effect h rfl rfl (accRot_effect _ s) (accRot_flags _ s)
  | rlc r | rrc r | rl r | rr r | sla r | sra r | swap r | srl r =>
    exact .of_effect h rfl rfl (cbRot_effect _ r s) (cbRot_flags _ r s)
  | bit b r => exact .of_effect h rfl rfl (cbBit_effect b r s) (cbBit_flags b r s)
  | res b r => exact .of_effect h rfl rfl (cbRes_effect b r s) (.of_f_eq (cbRes_f b r s))
  | set b r => exact .of_effect h rfl rfl (cbSet_effect b r s) (.of_f_eq (cbSet_f b r s))
  | jpImm16 nn => exact .of_effect h rfl rfl (jp_effect nn s) (.of_f_eq rfl)
  | jpHl => exact .of_effect h rfl rfl (jpHl_effect s) (.of_f_eq rfl)
  | jrOff e => exact .of_effect h rfl rfl (jr_effect e s) (.of_f_eq rfl)
  | jpNzImm16 nn | jpZImm16 nn | jpNcImm16 nn | jpCImm16 nn =>
    exact .of_effect h rfl rfl (jpCc_effect _ nn s) (.of_f_eq (jpCc_f _ nn s))
  | jrNzOff e | jrZOff e | jrNcOff e | jrCOff e =>
    exact .of_effect h rfl rfl (jrCc_effect _ e s) (.of_f_eq (jrCc_f _ e s))
  | callImm16 nn => exact .of_effect h rfl rfl (call_effect nn s) (.of_f_eq rfl)
  | callNzImm16 nn | callZImm16 nn | callNcImm16 nn | callCImm16 nn =>
    exact .of_effect h rfl rfl (callCc_effect _ nn s) (.of_f_eq (callCc_f _ nn s))
  | ret => exact .of_effect h rfl rfl (ret_effect s) (.of_f_eq rfl)
  | retNz | retZ | retNc | retC => exact .of_effect h rfl rfl (retCc_effect _ s) (.of_f_eq (retCc_f _ s))
  | rst00 | rst08 | rst10 | rst18 | rst20 | rst28 | rst30 | rst38 =>
    exact .of_effect h rfl rfl (rst_effect _ s) (.of_f_eq rfl)
  | nop => exact .of_effect h rfl rfl (nop_effect s) (.of_f_eq rfl)
  | di => exact .of_control h rfl (nop_effect s) (.of_f_eq rfl)
  | ei => exact .of_control h rfl (nop_effect s) (.of_f_eq rfl)
  | reti => exact .of_control h rfl (ret_effect s) (.of_f_eq rfl)
  | halt => exact .of_control h rfl (fetch_poll_effect s) (.of_f_eq rfl)
  | stop => exact .of_control h (exec_stop s) (nop_effect s) (.of_f_eq rfl)
  | undefinedD3 | undefinedDB | undefinedDD | undefinedE3 | undefinedE4 | undefinedEB | undefinedEC
    | undefinedED | undefinedF4 | undefinedFC | undefinedFD =>
    exact .of_effect h (undefinedByte_next h) rfl (nop_effect s) (.of_f_eq rfl)
  | prefixCb op2 => cases hw
  | ldAtHlB | ldAtHlC | ldAtHlD | ldAtHlE | ldAtHlH | ldAtHlL | ldAtHlA =>
    exact .of_effect h rfl rfl (ldR_effect .hlMem _ 2 s).no_register (.of_f_eq rfl)
  | _ => exact .of_effect h rfl rfl (ldR_effect _ _ _ s) (.of_f_eq (ldR_f _ _ _ s))

/-- An instruction goes on, or it is an undefined byte, which locks the core under Lock; none is refused (45_misc.md R266,
60_exceptions.md R300). -/
theorem exec_outcome (i : Instr) (s : State) :
    (i.undefinedByte? = none ∨ s.unknownOpcodePolicy = .nopWithWarning) ∧ (∃ t, exec i s = .next t) ∨
      ∃ op, i.undefinedByte? = some op ∧ s.unknownOpcodePolicy = .lock ∧
        exec i s = .fault (.unknownOpcode op s.pc (s.fetch1.lock op s.pc)) := by
  cases i with
  | undefinedD3 | undefinedDB | undefinedDD | undefinedE3 | undefinedE4 | undefinedEB | undefinedEC | undefinedED
    | undefinedF4 | undefinedFC | undefinedFD =>
    obtain ⟨hp, he⟩ | ⟨hp, he⟩ := undefinedByte_cases _ s
    · exact .inr ⟨_, rfl, hp, he⟩
    · exact .inl ⟨.inr hp, _, he⟩
  | prefixCb op2 =>
    refine .inl ⟨.inl rfl, ?_⟩
    change ∃ t, execCbMap op2 s = .next t
    unfold execCbMap
    split <;> exact ⟨_, rfl⟩
  | _ => exact .inl ⟨.inl rfl, _, rfl⟩

end Sys2Proof
end

section
/-! The frames of an instruction (10_state.md, 20_memory.md): each is a part of the rule of its row. -/

namespace Sys2Proof

open Sys2Proof.Machine

/-! ## The control bits, one by one -/

theorem Instr.controlAfter_ime (i : Instr) (s : State) :
    (i.controlAfter s).ime = if i = .di then false else if i = .reti then true else s.ime := by
  unfold Instr.controlAfter
  split
  case h_5 => split <;> rfl
  case h_6 hdi _ hreti _ _ => rw [if_neg hdi, if_neg hreti]; rfl
  all_goals rfl

theorem Instr.controlAfter_imePending (i : Instr) (s : State) :
    (i.controlAfter s).imePending = if i = .di then false else if i = .ei then true else s.imePending := by
  unfold Instr.controlAfter
  split
  case h_5 => split <;> rfl
  case h_6 hdi hei _ _ _ => rw [if_neg hdi, if_neg hei]; rfl
  all_goals rfl

theorem Instr.controlAfter_halted (i : Instr) (s : State) (hh : i ≠ .halt)
    (hs : ¬(i = .stop ∧ s.stopPolicy = .asHalt)) : (i.controlAfter s).halted = s.halted := by
  unfold Instr.controlAfter
  split
  case h_4 => exact absurd rfl hh
  case h_5 =>
    split
    · rfl
    · next hp => exact absurd ⟨rfl, hp⟩ hs
  all_goals rfl

theorem Instr.controlAfter_stopped (i : Instr) (s : State) (hs : ¬(i = .stop ∧ s.stopPolicy = .stopState)) :
    (i.controlAfter s).stopped = s.stopped := by
  unfold Instr.controlAfter
  split
  case h_5 =>
    split
    · next hp => exact absurd ⟨rfl, hp⟩ hs
    · rfl
  all_goals rfl

theorem Instr.controlAfter_haltBug (i : Instr) (s : State) (hh : i ≠ .halt) : (i.controlAfter s).haltBug = false := by
  unfold Instr.controlAfter
  split
  case h_4 => exact absurd rfl hh
  case h_5 => split <;> rfl
  all_goals rfl

namespace Obeys

variable {i : Instr} {s t : State} (o : Obeys i s t)
include o

theorem ime : t.ime = if i = .di then false else if i = .reti then true else s.ime :=
  (congrArg Control.ime o.control).trans (i.controlAfter_ime s)

theorem imePending : t.imePending = if i = .di then false else if i = .ei then true else s.imePending :=
  (congrArg Control.imePending o.control).trans (i.controlAfter_imePending s)

theorem halted : t.halted = (i.controlAfter s).halted := congrArg Control.halted o.control

theorem stopped : t.stopped = (i.controlAfter s).stopped := congrArg Control.stopped o.control

theorem haltBug : t.haltBug = (i.controlAfter s).haltBug := congrArg Control.haltBug o.control

end Obeys

/-! ## The frames -/

/-- Settles O51: the calls an instruction makes are its row's. -/
theorem memoryFrame : Obligations.MemoryFrame := by
  unfold Obligations.MemoryFrame
  intro i s t hw h
  have hc := (exec_obeys hw h).calls
  exact ⟨hc, fun hr _ ha => hc.peek hr ha⟩

/-- Settles O52: an instruction writes its row's registers; the tables are the definitions of their entries. -/
theorem registerFrame : Obligations.RegisterFrame := by
  unfold Obligations.RegisterFrame
  constructor
  · intro i s t hw h
    exact ⟨(exec_obeys hw h).regs, (exec_obeys hw h).sp⟩
  · intro s
    exact ⟨rfl, rfl, rfl, rfl, rfl, rfl, rfl⟩

/-- Settles O53: an instruction obeys its row's flag line. -/
theorem flagFrame : Obligations.FlagFrame := by
  unfold Obligations.FlagFrame
  exact fun i s t hw h => (exec_obeys hw h).flags

/-- Settles O54: an instruction leaves the control bits as its row says. -/
theorem controlFrame : Obligations.ControlFrame := by
  unfold Obligations.ControlFrame
  intro i s t hw h
  have o := exec_obeys hw h
  refine ⟨fun h1 h2 => ?_, fun h1 h2 => ?_, fun h1 h2 => ?_, fun h1 => ?_, fun h1 => ?_, o.kept, o.pc⟩
  · rw [o.ime, if_neg h1, if_neg h2]
  · rw [o.imePending, if_neg h1, if_neg h2]
  · rw [o.halted, i.controlAfter_halted s h1 h2]
  · rw [o.stopped, i.controlAfter_stopped s h1]
  · rw [o.haltBug, i.controlAfter_haltBug s h1]

end Sys2Proof
end

section
/-! What a step keeps, and when it faults (60_exceptions.md R300 to R315). -/

namespace Sys2Proof

open Sys2Proof.Machine Sys2Proof.Claims

/-! ## The step as its cases, and the EI commit -/

/-- The cases of R308 in order, each from the state the step is called in. -/
theorem step_eq (s : State) :
    step s =
      if s.locked then .fault (lockedFault s.beginStep)
      else if s.stopped then .next (s.beginStep.stoppedStep.commitEi s.imePending)
      else if s.halted && !s.pending then .next (s.beginStep.idleStep.commitEi s.imePending)
      else if s.ime && s.pending then .next ((afterPoll s).dispatchInterrupt s.request s.iflag)
      else commitOutcome s.imePending (exec s.nextInstr (afterPoll s)) := rfl

theorem step_of_locked {s : State} (h : s.locked = true) : step s = .fault (lockedFault s.beginStep) := by
  rw [step_eq, if_pos h]

/-- A step that is neither locked, stopped nor idle, whether the core was halted or not (R308 cases 5 to 8). -/
theorem step_of_awake {s : State} (hl : s.locked = false) (hs : s.stopped = false)
    (hh : s.halted = true → s.pending = true) :
    step s =
      if s.ime && s.pending then .next ((afterPoll s).dispatchInterrupt s.request s.iflag)
      else commitOutcome s.imePending (exec s.nextInstr (afterPoll s)) := by
  rw [step_eq, if_neg (by simp [hl]), if_neg (by simp [hs]), if_neg (by simpa using hh)]

theorem step_of_executes {s : State} (h : Executes s) :
    step s = commitOutcome s.imePending (exec s.nextInstr (afterPoll s)) := by
  obtain ⟨hl, hs, hh, hi⟩ := h
  rw [step_of_awake hl hs hh, if_neg (by simpa using hi)]

theorem afterPoll_fetchInstr (s : State) : (afterPoll s).fetchInstr = s.nextInstr := rfl

theorem nextInstr_wellFormed (s : State) : s.nextInstr.wellFormed = true := (decodeInstr_readFrom _ _ _).1

/-- A step that executes goes on by the rule of its instruction's row, and then commits (R308 cases 7 and 8). -/
theorem executes_next {s t : State} (hx : Executes s) (h : step s = .next t) :
    ∃ u, Obeys s.nextInstr (afterPoll s) u ∧ t = u.commitEi s.imePending := by
  rw [step_of_executes hx] at h
  cases he : exec s.nextInstr (afterPoll s) with
  | next u =>
    rw [he] at h
    cases h
    exact ⟨u, exec_obeys (nextInstr_wellFormed s) he, rfl⟩
  | fault r => rw [he] at h; cases h
  | refused r => rw [he] at h; cases h

/-- Everything a step that goes on can have done (R308), an executed instruction by the rule of its row. -/
theorem step_obeys_cases {s t : State} (h : step s = .next t) :
    (s.stopped = true ∧ t = s.beginStep.stoppedStep.commitEi s.imePending) ∨
      (s.stopped = false ∧ s.halted = true ∧ t = s.beginStep.idleStep.commitEi s.imePending) ∨
      (s.stopped = false ∧ s.ime = true ∧ s.pending = true ∧ t = (afterPoll s).dispatchInterrupt s.request s.iflag) ∨
      (Executes s ∧ ∃ u, Obeys s.nextInstr (afterPoll s) u ∧ t = u.commitEi s.imePending) := by
  obtain ⟨hl, ⟨hs, ht⟩ | ⟨hs, hh, -, ht⟩ | ⟨hs, hi, hp, ht⟩ | ⟨hs, hh, hi, -⟩⟩ := step_next_cases h
  · exact .inl ⟨hs, ht⟩
  · exact .inr (.inl ⟨hs, hh, ht⟩)
  · exact .inr (.inr (.inl ⟨hs, hi, hp, ht⟩))
  · have hx : Executes s := ⟨hl, hs, hh, hi⟩
    exact .inr (.inr (.inr ⟨hx, executes_next hx h⟩))

/-- A fault is that of a locked core, or of an undefined byte that the step executes under Lock (R300, R312). -/
theorem step_fault_undefined {s : State} {r : Fault} (h : step s = .fault r) :
    (s.locked = true ∧ r = lockedFault s.beginStep) ∨
      (Executes s ∧ s.unknownOpcodePolicy = .lock ∧ ∃ op, s.nextInstr.undefinedByte? = some op ∧
        r = .unknownOpcode op s.pc ((afterPoll s).fetch1.lock op s.pc)) := by
  obtain hl | ⟨hl, hs, hh, hi, he⟩ := step_fault_cases h
  · exact .inl hl
  · obtain ⟨-, t, ht⟩ | ⟨op, hu, hp, hf⟩ := exec_outcome s.nextInstr s.beginStep.awake
    · exact nomatch ht.symm.trans he
    · cases hf.symm.trans he
      exact .inr ⟨⟨hl, hs, hh, hi⟩, hp, op, hu, rfl⟩

theorem step_not_refused (s : State) (r : Refusal) : step s ≠ .refused r := fun h => by
  obtain ⟨-, t, ht⟩ | ⟨op, -, -, hf⟩ := exec_outcome s.nextInstr s.beginStep.awake
  · exact nomatch ht.symm.trans (step_refused_cases h)
  · exact nomatch hf.symm.trans (step_refused_cases h)

@[simp] theorem Machine.State.commitEi_ime (s : State) (p : Bool) :
    (s.commitEi p).ime = (s.ime || p && s.imePending) := by
  obtain ⟨h, hp⟩ | ⟨h, rfl, hp⟩ := s.commitEi_cases p
  · rw [h, hp, Bool.or_false]
  · simp [h, hp]

@[simp] theorem Machine.State.commitEi_imePending (s : State) (p : Bool) :
    (s.commitEi p).imePending = (s.imePending && !p) := by
  unfold State.commitEi
  cases p <;> cases h : s.imePending <;> simp [h]

@[simp] theorem Machine.State.commitEi_mCycles (s : State) (p : Bool) : (s.commitEi p).mCycles = s.mCycles := by
  obtain ⟨h, -⟩ | ⟨h, -⟩ := s.commitEi_cases p <;> rw [h]

/-! ## M-cycles (R313) -/

theorem one_le_ite_le_six {c : Prop} [Decidable c] {a b : Nat} (ha : 1 ≤ a ∧ a ≤ 6) (hb : 1 ≤ b ∧ b ≤ 6) :
    1 ≤ (if c then a else b) ∧ (if c then a else b) ≤ 6 := by
  split
  · exact ha
  · exact hb

/-- Two counts stand in the rows of the conditional instructions and of the CB map, one in every other. -/
theorem Instr.mCycles_bounds (i : Instr) (s : State) : 1 ≤ i.mCycles s ∧ i.mCycles s ≤ 6 := by
  cases i with
  | jrNzOff e | jrZOff e | jrNcOff e | jrCOff e => exact one_le_ite_le_six (by decide) (by decide)
  | jpNzImm16 nn | jpZImm16 nn | jpNcImm16 nn | jpCImm16 nn => exact one_le_ite_le_six (by decide) (by decide)
  | callNzImm16 nn | callZImm16 nn | callNcImm16 nn | callCImm16 nn => exact one_le_ite_le_six (by decide) (by decide)
  | retNz | retZ | retNc | retC => exact one_le_ite_le_six (by decide) (by decide)
  | rlc r | rrc r | rl r | rr r | sla r | sra r | swap r | srl r => exact one_le_ite_le_six (by decide) (by decide)
  | bit b r | res b r | set b r => exact one_le_ite_le_six (by decide) (by decide)
  | _ => exact ⟨Nat.le_of_ble_eq_true rfl, Nat.le_of_ble_eq_true rfl⟩

theorem step_mCycles {s t : State} (h : step s = .next t) :
    ∃ n, (1 ≤ n ∧ n ≤ 6) ∧ t.mCycles = s.mCycles + BitVec.ofNat 64 n := by
  obtain ⟨-, rfl⟩ | ⟨-, -, rfl⟩ | ⟨-, -, -, rfl⟩ | ⟨-, u, o, rfl⟩ := step_obeys_cases h
  · exact ⟨1, by decide, by simp [State.stoppedStep]⟩
  · exact ⟨1, by decide, by simp [State.idleStep]⟩
  · exact ⟨5, by decide, rfl⟩
  · exact ⟨_, Instr.mCycles_bounds _ _, by rw [State.commitEi_mCycles]; exact o.cycles⟩

/-- Settles O55: an instruction's count is its row's, between 1 and 6, and so is that of every other step. -/
theorem cyclesOfEveryInstructionAndStep : Obligations.CyclesOfEveryInstructionAndStep := by
  unfold Obligations.CyclesOfEveryInstructionAndStep
  refine ⟨fun i s t hw h => (exec_obeys hw h).cycles, fun s t h => ?_⟩
  obtain ⟨n, ⟨h1, h6⟩, ht⟩ := step_mCycles h
  have hn : cyclesOf s t = n := by
    rw [cyclesOf, ht, add_sub_cancel_left, BitVec.toNat_ofNat, Nat.mod_eq_of_lt (by omega)]
  exact hn ▸ ⟨h1, h6⟩

/-! ## The invariant -/

/-- The commit writes no field that the invariant speaks of. -/
theorem Machine.State.Inv.commitEi {s : State} (h : s.Inv) (p : Bool) : (s.commitEi p).Inv := by
  obtain ⟨e, -⟩ | ⟨e, -⟩ := s.commitEi_cases p <;> (rw [e]; exact h)

/-- An instruction never leaves both halted and stopped set (10_state.md R36). -/
theorem Instr.controlAfter_halted_stopped (i : Instr) (s : State) (hh : s.halted = false) (hs : s.stopped = false) :
    ¬((i.controlAfter s).halted = true ∧ (i.controlAfter s).stopped = true) := by
  unfold Instr.controlAfter State.fetchedControl State.control
  split <;> try split
  all_goals simp [hh, hs]

/-- An instruction sets halt_bug only with halted (45_misc.md R263). -/
theorem Instr.controlAfter_haltBug_halted (i : Instr) (s : State) (h : (i.controlAfter s).haltBug = true) :
    (i.controlAfter s).halted = true := by
  by_cases hi : i = .halt
  · rw [hi]; rfl
  · rw [i.controlAfter_haltBug s hi] at h
    cases h

/-- An instruction that starts awake leaves a state that meets the invariant; halt_bug may be set before it, since the fetch
clears it. -/
theorem Obeys.inv {i : Instr} {s t : State} (o : Obeys i s t) (hf : s.f &&& 0x0F = 0) (hb : s.bus.wf)
    (hh : s.halted = false) (hs : s.stopped = false)
    (hl : s.locked = false → s.lockedOpcode = 0 ∧ s.lockedAddr = 0) : t.Inv := by
  obtain ⟨-, -, -, -, -, low⟩ := o.flags
  have kept := o.kept
  simp only [Prod.mk.injEq] at kept
  obtain ⟨klocked, kop, kaddr, -⟩ := kept
  refine ⟨low hf, o.calls.wf hb, ?_, ?_, ?_⟩
  · rw [o.halted, o.stopped]
    exact i.controlAfter_halted_stopped s hh hs
  · rwa [klocked, kop, kaddr]
  · rw [o.haltBug, o.halted]
    exact i.controlAfter_haltBug_halted s

theorem afterPoll_wf {s : State} (h : s.bus.wf) : (afterPoll s).bus.wf := Bus.read8_wf (Bus.read8_wf h _) _

/-- Settles O48: the invariant at the start of a step gives that of each way the step can end; the executed instruction's
is the rule of its row. -/
theorem everyStepKeepsInvariant : Obligations.EveryStepKeepsInvariant := by
  unfold Obligations.EveryStepKeepsInvariant
  intro s ⟨hf, hb, hhs, hl, hbug⟩
  constructor
  · intro t h
    obtain ⟨hs, rfl⟩ | ⟨hs, hh, rfl⟩ | ⟨hs, -, -, rfl⟩ | ⟨⟨-, hs, -, -⟩, u, o, rfl⟩ := step_obeys_cases h
    · exact State.Inv.commitEi (s := s.beginStep.stoppedStep) ⟨hf, hb, fun ⟨h1, _⟩ => hhs ⟨h1, hs⟩, hl, hbug⟩ _
    · exact State.Inv.commitEi (s := s.beginStep.idleStep) ⟨hf, afterPoll_wf hb, hhs, hl, hbug⟩ _
    · refine ⟨hf, Bus.write8_wf (Bus.write8_wf (Bus.write8_wf (afterPoll_wf hb) _ _) _ _) _ _, ?_, hl, ?_⟩
      · exact fun ⟨h1, _⟩ => nomatch h1
      · exact fun h1 => nomatch h1
    · exact (o.inv hf (afterPoll_wf hb) rfl hs hl).commitEi _
  · intro op addr t h
    obtain ⟨-, hr⟩ | ⟨⟨-, hs, -, -⟩, -, op', -, hr⟩ := step_fault_undefined h
    · cases hr
      exact ⟨hf, hb, hhs, hl, hbug⟩
    · cases hr
      refine ⟨hf, Bus.read8_wf (afterPoll_wf hb) _, ?_, ?_, ?_⟩
      · exact fun ⟨h1, _⟩ => nomatch h1
      · exact fun h1 => nomatch h1
      · exact fun h1 => nomatch h1

/-! ## Faults (R300, R312) -/

/-- Settles O44: a locked core's fault makes no call, that of an undefined byte the poll and the fetch. -/
theorem faultLocksTheCoreForGood : Obligations.FaultLocksTheCoreForGood := by
  unfold Obligations.FaultLocksTheCoreForGood
  intro s t op addr h
  obtain ⟨hl, hr⟩ | ⟨-, -, op', -, hr⟩ := step_fault_undefined h
  · cases hr
    exact ⟨hl, rfl, rfl, rfl, rfl, (fun c hc => nomatch hc), step_of_locked hl⟩
  · cases hr
    refine ⟨rfl, rfl, rfl, rfl, rfl, fun c hc => ?_, step_of_locked rfl⟩
    change c ∈ [.read 0xFFFF, .read 0xFF0F, .read s.pc] at hc
    simp only [List.mem_cons, List.not_mem_nil, or_false] at hc
    obtain rfl | rfl | rfl := hc <;> exact ⟨_, rfl⟩

/-! ## IME and its latch (R307) -/

/-- Settles O46: EI sets the latch, every other instruction but DI leaves it for the commit, and so do a stopped and an idle
step. -/
theorem eiTakesEffectOneStepLate : Obligations.EiTakesEffectOneStepLate := by
  unfold Obligations.EiTakesEffectOneStepLate
  intro s t h
  rw [afterPoll_fetchInstr]
  refine ⟨fun hx hp hi => ?_, fun hime hp hdi => ?_, fun hx hi => ?_⟩
  · obtain ⟨u, o, rfl⟩ := executes_next hx h
    rw [hi] at o
    rw [State.commitEi_ime, State.commitEi_imePending, o.ime, o.imePending, hp]
    exact ⟨Bool.or_false _, rfl⟩
  · obtain ⟨-, rfl⟩ | ⟨-, -, rfl⟩ | ⟨-, hi, -⟩ | ⟨hx, u, o, rfl⟩ := step_obeys_cases h
    · simp [State.stoppedStep, hp]
    · simp [State.idleStep, hp]
    · exact nomatch hime.symm.trans hi
    · have hu : u.imePending = true := by
        rw [o.imePending, if_neg fun hi => hdi ⟨hx, hi⟩]
        split
        · rfl
        · exact hp
      simp [hu, hp]
  · obtain ⟨u, o, rfl⟩ := executes_next hx h
    rw [hi] at o
    simp [o.ime, o.imePending]

/-- Settles O47: with the latch clear no step commits, so IME rises by RETI alone; a commit lowers nothing, so it falls by a
dispatch or by DI. -/
theorem onlyEiAndRetiRaiseIme : Obligations.OnlyEiAndRetiRaiseIme := by
  unfold Obligations.OnlyEiAndRetiRaiseIme
  intro s t h
  rw [afterPoll_fetchInstr]
  refine ⟨fun hime ht => or_iff_not_imp_left.2 fun hp => ?_, fun hime ht => or_iff_not_imp_left.2 fun hp => ?_⟩
  · rw [Bool.not_eq_true] at hp
    obtain ⟨-, rfl⟩ | ⟨-, -, rfl⟩ | ⟨-, hi, -⟩ | ⟨hx, u, o, rfl⟩ := step_obeys_cases h
    · simp [State.stoppedStep, hime, hp] at ht
    · simp [State.idleStep, hime, hp] at ht
    · exact nomatch hime.symm.trans hi
    · refine ⟨hx, by_contra fun hreti => ?_⟩
      have hu := o.ime
      rw [if_neg hreti] at hu
      have : (afterPoll s).ime = false := hime
      simp [hu, hp, this] at ht
  · obtain ⟨-, rfl⟩ | ⟨-, -, rfl⟩ | ⟨-, -, hp', -⟩ | ⟨hx, u, o, rfl⟩ := step_obeys_cases h
    · simp [State.stoppedStep, hime] at ht
    · simp [State.idleStep, hime] at ht
    · exact absurd hp' hp
    · refine ⟨hx, by_contra fun hdi => ?_⟩
      have hu := o.ime
      rw [if_neg hdi] at hu
      have : (afterPoll s).ime = true := hime
      simp [hu, this] at ht

end Sys2Proof
end

section
/-! The encoder read back (30_encoding.md R70 to R86), and the undefined bytes (R84). -/

namespace Sys2Proof

open Sys2Proof.Machine

/-! ## The fields of a byte made of fields (R71) -/

theorem fieldX_byteOfFields {x y z : Nat} (hx : x < 4) (hy : y < 8) (hz : z < 8) : fieldX (byteOfFields x y z) = x := by
  simp only [byteOfFields, fieldX, BitVec.extractLsb'_toNat, BitVec.toNat_ofNat, Nat.shiftRight_eq_div_pow]
  omega

theorem fieldY_byteOfFields {x y z : Nat} (hy : y < 8) (hz : z < 8) : fieldY (byteOfFields x y z) = y := by
  simp only [byteOfFields, fieldY, BitVec.extractLsb'_toNat, BitVec.toNat_ofNat, Nat.shiftRight_eq_div_pow]
  omega

theorem fieldZ_byteOfFields {x y z : Nat} (hz : z < 8) : fieldZ (byteOfFields x y z) = z := by
  simp only [byteOfFields, fieldZ, BitVec.extractLsb'_toNat, BitVec.toNat_ofNat, Nat.shiftRight_eq_div_pow]
  omega

theorem r8Index_lt (r : R8) : r8Index r < 8 := by cases r <;> decide

theorem r8OfIndex_r8Index (r : R8) : r8OfIndex (r8Index r) = r := by cases r <;> rfl

/-! ## The CB map read back (R83) -/

/-- The three groups of the CB map whose field y is a bit number. -/
theorem decodeCb_bits (b : BitVec 3) (r : R8) :
    decodeCb (byteOfFields 1 b.toNat (r8Index r)) = .bit b r ∧
      decodeCb (byteOfFields 2 b.toNat (r8Index r)) = .res b r ∧
      decodeCb (byteOfFields 3 b.toNat (r8Index r)) = .set b r := by
  have hb := b.isLt
  have hr := r8Index_lt r
  unfold decodeCb
  simp [fieldX_byteOfFields, fieldY_byteOfFields, fieldZ_byteOfFields, hb, hr, r8OfIndex_r8Index]

/-! ## Every row read back -/

theorem decode_cb {op2 : Byte} {i : Instr} (h : decodeCb op2 = i) (rest : List Byte) :
    decode ([0xCB, op2] ++ rest) = .ok (i, rest) := h ▸ rfl

/-- Settles O1: a row without operands is read back from its byte, an immediate from the bytes after it, a word from its
two bytes joined, and a row of the CB map from the fields of its second byte. -/
theorem decodeOfEncodeIsTheInstruction : Obligations.DecodeOfEncodeIsTheInstruction := by
  unfold Obligations.DecodeOfEncodeIsTheInstruction
  intro i hw rest
  cases i with
  | prefixCb op2 => exact nomatch hw
  | ldBcImm16 nn | ldAtImm16Sp nn | ldDeImm16 nn | ldHlImm16 nn | ldSpImm16 nn | jpNzImm16 nn | jpImm16 nn
    | callNzImm16 nn | jpZImm16 nn | callZImm16 nn | callImm16 nn | jpNcImm16 nn | callNcImm16 nn | jpCImm16 nn
    | callCImm16 nn | ldAtImm16A nn | ldAAtImm16 nn =>
    conv_rhs => rw [← joinBytes_halves nn]
    rfl
  | rlc r | rrc r | rl r | rr r | sla r | sra r | swap r | srl r => cases r <;> rfl
  | bit b r =>
    obtain ⟨h, -, -⟩ := decodeCb_bits b r
    exact decode_cb h rest
  | res b r =>
    obtain ⟨-, h, -⟩ := decodeCb_bits b r
    exact decode_cb h rest
  | set b r =>
    obtain ⟨-, -, h⟩ := decodeCb_bits b r
    exact decode_cb h rest
  | _ => rfl

/-! ## The undefined bytes (R84) -/

/-- A row is undefined only if its one byte is one of the eleven, and then it means what that byte means. -/
theorem undefined_row {i : Instr} {op : Byte} (h : i.undefinedByte? = some op) :
    encode i = [op] ∧ undefinedBytes.contains op = true ∧ ∀ s, exec i s = undefinedByte op s := by
  cases i with
  | undefinedD3 | undefinedDB | undefinedDD | undefinedE3 | undefinedE4 | undefinedEB | undefinedEC | undefinedED
    | undefinedF4 | undefinedFC | undefinedFD => cases h; exact ⟨rfl, rfl, fun _ => rfl⟩
  | _ => cases h

/-- The row of each of the eleven bytes is undefined. -/
theorem decodeInstr_undefined {op : Byte} (h : undefinedBytes.contains op = true) (b1 b2 : Byte) :
    (decodeInstr op b1 b2).undefinedByte? = some op := by
  rw [List.contains_iff_mem] at h
  simp only [undefinedBytes, List.mem_cons, List.not_mem_nil, or_false] at h
  obtain rfl | rfl | rfl | rfl | rfl | rfl | rfl | rfl | rfl | rfl | rfl := h <;> rfl

theorem opLength_pos (op : Byte) : 0 < opLength op := by
  unfold opLength
  split
  · decide
  · split <;> decide

theorem decodeInstr_undefinedByte? (op b1 b2 : Byte) :
    (decodeInstr op b1 b2).undefinedByte? = if undefinedBytes.contains op then some op else none := by
  split
  next h => exact decodeInstr_undefined h b1 b2
  next h =>
    rw [Option.eq_none_iff_forall_ne_some]
    intro o ho
    obtain ⟨he, hc, -⟩ := undefined_row ho
    have hop : o = op := by
      obtain ⟨n, hn⟩ := Nat.exists_eq_add_one.2 (opLength_pos op)
      have hr := (decodeInstr_readFrom op b1 b2).2
      rw [he, hn] at hr
      exact (List.cons.inj hr).1
    exact h (hop ▸ hc)

/-- Settles O3: an undefined row encodes to one of the eleven bytes, which decoding has read. -/
theorem exactlyElevenBytesAreUndefined : Obligations.ExactlyElevenBytesAreUndefined := by
  unfold Obligations.ExactlyElevenBytesAreUndefined
  exact ⟨decodeInstr_undefinedByte?, rfl⟩

end Sys2Proof
end

section
/-! The stepper's cases, each with its whole next state (60_exceptions.md R308 to R311). -/

namespace Sys2Proof

open Sys2Proof.Machine Sys2Proof.Claims

/-- Settles O39: with the HALT bug PC stays on the opcode byte, without it PC moves on; every operand byte moves PC on. -/
theorem fetchAdvancesPcButForHaltBug : Obligations.FetchAdvancesPcButForHaltBug := by
  unfold Obligations.FetchAdvancesPcButForHaltBug
  intro s
  refine ⟨fun hb => ?_, fun hb => ?_, rfl, rfl⟩
  · have h1 : s.fetch1.pc = s.pc + 1 := by simp [State.fetch1, hb]
    have h2 : s.fetch2.pc = s.pc + 2 := by
      change s.fetch1.pc + 1 = s.pc + 2
      rw [h1, BitVec.add_assoc]
      rfl
    refine ⟨?_, by rw [State.fetchInstr, h1, h2]⟩
    rw [State.fetch1, State.fetchOp_spec]
    simp only [hb]
    rfl
  · have h1 : s.fetch1.pc = s.pc := by simp [State.fetch1, hb]
    have h2 : s.fetch2.pc = s.pc + 1 := congrArg (· + 1) h1
    refine ⟨?_, by rw [State.fetchInstr, h1, h2]⟩
    rw [State.fetch1, State.fetchOp_spec, hb]
    rfl

theorem commitEi_eq (s : State) (p : Bool) :
    s.commitEi p = if p = true ∧ s.imePending = true then { s with ime := true, imePending := false } else s := by
  simp only [State.commitEi, Bool.and_eq_true]

/-- A commit of the latch itself. -/
theorem commitEi_latch (s : State) :
    s.commitEi s.imePending = { s with ime := s.ime || s.imePending, imePending := false } := by
  simp only [commitEi_eq, and_self]
  split
  next h => simp only [h, Bool.or_true]
  next h =>
    rw [Bool.not_eq_true] at h
    simp only [h, Bool.or_false]
    rw [← h]

/-- Settles O40: the step is its last case. -/
theorem stepRunsTheDecodedInstruction : Obligations.StepRunsTheDecodedInstruction := by
  unfold Obligations.StepRunsTheDecodedInstruction
  intro s i hx _ u hi
  have hn : s.nextInstr = i := hi
  rw [step_of_executes hx, hn]
  change commitOutcome s.imePending (exec i u) = _
  cases exec i u with
  | next t => exact congrArg Host.Outcome.next (commitEi_eq t s.imePending)
  | fault r => rfl
  | refused r => rfl

/-- Settles O45: a step that executes faults as its instruction does, and the first byte fetched says which one that is. -/
theorem onlyUndefinedBytesFault : Obligations.OnlyUndefinedBytesFault := by
  unfold Obligations.OnlyUndefinedBytesFault
  intro s faults
  have hbyte : s.nextInstr.undefinedByte? = if undefinedBytes.contains ((afterPoll s).peek s.pc) then
      some ((afterPoll s).peek s.pc) else none := decodeInstr_undefinedByte? _ _ _
  refine ⟨fun hf => ?_, fun hn => ?_⟩
  · obtain hl | ⟨hx, hp, hb⟩ := hf
    · exact ⟨_, step_of_locked hl⟩
    · rw [if_pos hb] at hbyte
      obtain ⟨hi | hi, -⟩ | ⟨op, -, -, he⟩ := exec_outcome s.nextInstr (afterPoll s)
      · exact nomatch hbyte.symm.trans hi
      · exact nomatch hp.symm.trans hi
      · exact ⟨_, by rw [step_of_executes hx, he]; rfl⟩
  · cases h : step s with
    | next t => exact ⟨t, rfl⟩
    | fault r =>
      obtain ⟨hl, -⟩ | ⟨hx, hp, op, hu, -⟩ := step_fault_undefined h
      · exact absurd (.inl hl) hn
      · rw [hbyte] at hu
        split at hu
        next hb => exact absurd (.inr ⟨hx, hp, hb⟩) hn
        next => cases hu
    | refused r => exact absurd h (step_not_refused s r)

/-- Settles O42: an idle step polls, counts and commits; a step that wakes reads halted nowhere else. -/
theorem haltedStepIdlesOrWakes : Obligations.HaltedStepIdlesOrWakes := by
  unfold Obligations.HaltedStepIdlesOrWakes
  intro s hl hs hh
  refine ⟨fun hp => ?_, fun hp => ?_⟩
  · rw [step_eq, if_neg (by simp [hl]), if_neg (by simp [hs]), if_pos (by simp [hh, hp])]
    exact congrArg Host.Outcome.next (commitEi_latch s.beginStep.idleStep)
  · rw [step_of_awake hl hs fun _ => hp, step_of_awake (s := { s with halted := false }) hl hs fun h => nomatch h]
    rfl

/-- Settles O43: a stopped step draws, counts and commits. -/
theorem stoppedStepOnlyDraws : Obligations.StoppedStepOnlyDraws := by
  unfold Obligations.StoppedStepOnlyDraws
  intro s hl hs
  rw [step_eq, if_neg (by simp [hl]), if_pos hs]
  refine congrArg Host.Outcome.next ((commitEi_latch s.beginStep.stoppedStep).trans ?_)
  simp [State.stoppedStep, State.beginStep, State.tick, hs]

/-! ## Dispatch (R303 to R306) -/

/-- The lowest set bit of a request is the source served. -/
theorem lowestSource_eq {req : Byte} {k : Nat} (hreq : req &&& 0x1F = req) (hb : req.getLsbD k = true)
    (hlow : ∀ j < k, req.getLsbD j = false) : lowestSource req = k := by
  have h0 : req ≠ 0 := fun h => by simp [h] at hb
  obtain ⟨hb', hlow'⟩ := lowestSource_spec req hreq h0
  rcases lt_trichotomy (lowestSource req) k with h | h | h
  · exact nomatch hb'.symm.trans (hlow _ h)
  · exact h
  · exact nomatch hb.symm.trans (hlow' _ h)

theorem request_sources (s : State) : s.request &&& 0x1F = s.request := by
  rw [State.request, BitVec.and_assoc, BitVec.and_self]

theorem vectorOf_eq (k : Nat) : vectorOf k = BitVec.ofNat 16 (0x40 + 8 * k) := (BitVec.ofNat_add 0x40 (8 * k)).symm

/-- Settles O41: a set bit of the request makes it pending, and the lowest one is the source served. -/
theorem stepDispatchesPendingInterrupt : Obligations.StepDispatchesPendingInterrupt := by
  unfold Obligations.StepDispatchesPendingInterrupt
  intro s k hl hs hi _ iflag req hb hlow cleared ret
  have hsource : lowestSource s.request = k := lowestSource_eq (request_sources s) hb hlow
  have hp : s.pending = true := bne_iff_ne.2 fun h0 => by
    have hz : s.request.getLsbD k = true := hb
    simp [h0] at hz
  rw [step_of_awake hl hs fun _ => hp, if_pos (by simp [hi, hp]), State.dispatchInterrupt_spec, hsource, vectorOf_eq,
    pushed_high_addr]
  rfl

end Sys2Proof
end

section
/-! Reset, the persisted record and the request of an interrupt (10_state.md sections 5 and 6, 60_exceptions.md section 6). -/

namespace Sys2Proof

open Sys2Proof.Machine

/-- Settles O49: each profile is a list of constants that meet the invariant, over the bus as it was. -/
theorem resetMeetsInvariant : Obligations.ResetMeetsInvariant := by
  unfold Obligations.ResetMeetsInvariant
  refine ⟨⟨by decide, State.reset_bus_wf, by decide, by decide, by decide⟩, fun s p hb => ?_⟩
  have hf : (s.resetTo p).f &&& 0x0F = 0 := by
    cases p with
    | cold => exact (by decide : (0x00 : Byte) &&& 0x0F = 0)
    | postBoot => exact (by decide : (0xB0 : Byte) &&& 0x0F = 0)
  cases p <;> exact ⟨hf, hb, (fun h => nomatch h.1), fun _ => ⟨rfl, rfl⟩, fun h => nomatch h⟩

/-- Settles O50: the fields of the two profiles, read off. -/
theorem resetProfileValues : Obligations.ResetProfileValues := by
  unfold Obligations.ResetProfileValues
  refine ⟨fun s p => ?_, rfl⟩
  cases p with
  | cold =>
    exact ⟨rfl, rfl, rfl, fun _ => (by decide : (joinBytes 0x00 (maskF 0x00), joinBytes 0x00 0x00, joinBytes 0x00 0x00,
      joinBytes 0x00 0x00, (0x0000 : Word), (0x0000 : Word)) = _), fun h => nomatch h⟩
  | postBoot =>
    exact ⟨rfl, rfl, rfl, (fun h => nomatch h),
      fun _ => (by decide : (joinBytes 0x01 (maskF 0xB0), joinBytes 0x00 0x13, joinBytes 0x00 0xD8, joinBytes 0x01 0x4D,
        (0xFFFE : Word), (0x0100 : Word)) = _)⟩

theorem bitByte_ne_zero (c : Bool) : (bitByte c != 0) = c := by cases c <;> rfl

/-- The mask keeps a byte whose low nibble is zero (10_state.md R22). -/
theorem maskF_of_low_nibble : ∀ v : Byte, v &&& 0x0F = 0 → maskF v = v := by decide

theorem maskF_getF {s : State} (h : s.f &&& 0x0F = 0) : maskF s.getF = s.f :=
  (maskF_maskF s.f).trans (maskF_of_low_nibble s.f h)

theorem word64_byteOf64 (v : BitVec 64) :
    word64 (byteOf64 v 0) (byteOf64 v 1) (byteOf64 v 2) (byteOf64 v 3) (byteOf64 v 4) (byteOf64 v 5) (byteOf64 v 6)
      (byteOf64 v 7) = v := by
  apply BitVec.eq_of_getLsbD_eq
  intro i hi
  simp only [word64, byteOf64, BitVec.getLsbD_append, BitVec.getLsbD_extractLsb']
  interval_cases i <;> rfl

/-- Settles O60: each field of the record is the inverse of how it was saved. -/
theorem persistedRecordRoundTrip : Obligations.PersistedRecordRoundTrip := by
  unfold Obligations.PersistedRecordRoundTrip
  refine ⟨fun _ => rfl, fun s s0 hf => ?_, fun s0 record hlen => ?_⟩
  · simp only [State.save, State.restore, List.cons_append, List.nil_append, maskF_getF hf, joinBytes_halves, bitByte_ne_zero,
      word64_byteOf64]
  · unfold State.restore
    split
    · exact absurd rfl hlen
    · rfl

theorem getLsbD_oneShift {j : Nat} (k : Nat) (hj : j < 8) : ((1 : Byte) <<< k).getLsbD j = decide (j = k) := by
  change (BitVec.twoPow 8 k).getLsbD j = _
  rw [BitVec.getLsbD_twoPow]
  by_cases h : j = k
  · simp [h, h ▸ hj]
  · simp [h, Ne.symm h]

/-- IF with the bit of source k set, the other seven as read (60_exceptions.md R318). -/
def setSource (iflag : Byte) (k : Nat) : Byte := iflag ||| ((1 : Byte) <<< k)

theorem getLsbD_setSource (iflag : Byte) (k : Nat) {j : Nat} (hj : j < 8) :
    (setSource iflag k).getLsbD j = (iflag.getLsbD j || decide (j = k)) := by
  rw [setSource, BitVec.getLsbD_or, getLsbD_oneShift k hj]

theorem requestInterrupt_eq (s : State) {k : Nat} (hk : k < 5) :
    s.requestInterrupt k =
      .next { s with bus := (s.bus.read8 0xFF0F).2.write8 0xFF0F (setSource (s.peek 0xFF0F) k) } := if_pos hk

/-- On RAM a byte reads as it was last written (20_memory.md R59). -/
theorem Machine.Bus.read_write {b : Bus} (h : b.isRam = true) (a x : Word) (v : Byte) :
    ((b.write8 a v).read8 x).1 = if x = a then v else (b.read8 x).1 := by
  split
  next e => rw [e, Bus.read_write_same h]
  next e => exact Bus.read_write_other h v e

/-- A source that IE enables and IF requests is pending (60_exceptions.md R302). -/
theorem pending_of_bit {s : State} {k : Nat} (hk : k < 5) (he : s.ie.getLsbD k = true) (hf : s.iflag.getLsbD k = true) :
    s.pending = true := by
  have hm : (0x1F : Byte).getLsbD k = true := by interval_cases k <;> rfl
  have hr : s.request.getLsbD k = true := by simp only [State.request, BitVec.getLsbD_and, he, hf, hm, Bool.and_self]
  exact bne_iff_ne.2 fun h0 => by simp [h0] at hr

/-- Settles O59: the byte written is IF with bit k set; on RAM the poll then reads it, and IE as it was. -/
theorem requestInterruptSetsOneBit : Obligations.RequestInterruptSetsOneBit := by
  unfold Obligations.RequestInterruptSetsOneBit
  intro s k
  refine ⟨fun hk => ⟨_, setSource (s.peek 0xFF0F) k, requestInterrupt_eq s hk, fun j hj => getLsbD_setSource _ k hj,
    rfl, fun hr => ?_⟩, fun hk => if_neg (by omega)⟩
  rw [Bus.read8_ram hr]
  generalize hv : setSource (s.peek 0xFF0F) k = v
  have hpeek (x : Word) : ({ s with bus := s.bus.write8 0xFF0F v } : State).peek x = if x = 0xFF0F then v else s.peek x :=
    Bus.read_write hr 0xFF0F x v
  refine ⟨hpeek 0xFF0F, fun x hx => (hpeek x).trans (if_neg hx), fun he => pending_of_bit hk ?_ ?_⟩
  · exact (congrArg (·.getLsbD k) (hpeek 0xFFFF)).trans he
  · have hi : ({ s with bus := s.bus.write8 0xFF0F v } : State).iflag = v :=
      (congrArg (fun b : Bus => (b.read8 0xFF0F).1) (Bus.read8_ram (by simpa using hr) _)).trans (hpeek 0xFF0F)
    rw [hi, ← hv, getLsbD_setSource _ k (by omega), decide_eq_true rfl, Bool.or_true]

/-! ## A word on RAM (20_memory.md R59) -/

theorem add_one_ne (a : Word) : a + 1 ≠ a := by bv_omega

/-- On RAM a stored word reads back. -/
theorem peek16_busWrite16 {s : State} (h : s.bus.isRam = true) (a v : Word) : (s.busWrite16 a v).peek16 a = v := by
  have hram : (s.busWrite16 a v).bus.isRam = true := by simpa using h
  have h1 : (s.bus.write8 a (loByte v)).isRam = true := by simpa using h
  have hlo : (s.busWrite16 a v).peek a = loByte v :=
    (Bus.read_write_other h1 _ (add_one_ne a).symm).trans (Bus.read_write_same h _ _)
  have hhi : ((s.busWrite16 a v).noteRead a).peek (a + 1) = hiByte v := by
    rw [State.peek, State.noteRead_bus, Bus.read8_ram hram]
    exact Bus.read_write_same h1 _ _
  rw [State.peek16, hlo, hhi, joinBytes_halves]

/-- Settles O57: the two calls are the definition; on RAM the second leaves the byte of the first. -/
theorem wordStoreIsTwoBytesLowFirst : Obligations.WordStoreIsTwoBytesLowFirst := by
  unfold Obligations.WordStoreIsTwoBytesLowFirst
  intro s a v t
  refine ⟨rfl, by simp [t], fun h => ?_⟩
  have h1 : (s.bus.write8 a (loByte v)).isRam = true := by simpa using h
  refine ⟨?_, Bus.read_write_same h1 _ _, peek16_busWrite16 h a v, fun x hx hx' => ?_⟩
  · exact (Bus.read_write_other h1 _ (add_one_ne a).symm).trans (Bus.read_write_same h _ _)
  · exact (Bus.read_write_other h1 _ hx').trans (Bus.read_write_other h _ hx)

theorem exec_decodePush (p : Rp2) (s : State) : exec (decodePush p) s = .next (pushPair p s) := by cases p <;> rfl

theorem exec_decodePop (p : Rp2) (s : State) : exec (decodePop p) s = .next (popPair p s) := by cases p <;> rfl

theorem peek16_of_bus_eq {s t : State} (h : s.bus = t.bus) (a : Word) : s.peek16 a = t.peek16 a := by
  simp only [State.peek16, State.peek, State.noteRead_bus, h]

/-- What POP pops after PUSH, on RAM: POP's own fetch is a read, which changes no byte. -/
theorem popped_after_push (p : Rp2) {s : State} (h : s.bus.isRam = true) :
    (pushPair p s).fetch1.popped = s.getRp2 p := by
  have hram : (pushPair p s).bus.isRam = true := by simpa [pushPair, State.fetch1] using h
  have hpushed : s.fetch1.getRp2 p = s.getRp2 p := by cases p <;> rfl
  calc (pushPair p s).fetch1.popped
      = (({ s.fetch1 with sp := s.sp - 2 } : State).busWrite16 (s.sp - 2) (s.fetch1.getRp2 p)).peek16 (s.sp - 2) :=
        peek16_of_bus_eq (Bus.read8_ram hram _) _
    _ = s.getRp2 p := by rw [hpushed, peek16_busWrite16 (by simpa [State.fetch1] using h)]

/-- A pair written with its own value: nothing changes, if F's low nibble is zero. -/
theorem setRp2_getRp2 (s : State) (p : Rp2) (hf : s.f &&& 0x0F = 0) : s.setRp2 p (s.getRp2 p) = s := by
  cases p with
  | bc | de | hl =>
    simp only [State.setRp2, State.getRp2, State.setBc, State.setDe, State.setHl, State.bc, State.de, State.hl,
      hiByte_joinBytes, loByte_joinBytes]
  | af => simp only [State.setRp2, State.getRp2, State.setAf, State.af, hiByte_joinBytes, loByte_joinBytes, maskF_getF hf]

/-- Settles O58: POP writes the pair with the value it still holds, and moves SP back. -/
theorem pushThenPopRestores : Obligations.PushThenPopRestores := by
  unfold Obligations.PushThenPopRestores
  intro p s hram hf
  have hpair : (pushPair p s).fetch1.pop16.getRp2 p = s.getRp2 p := by cases p <;> rfl
  have hpop : popPair p (pushPair p s) = (pushPair p s).fetch1.pop16.tick 3 := by
    rw [popPair, popped_after_push p hram, ← hpair,
      setRp2_getRp2 (pushPair p s).fetch1.pop16 p hf]
  refine ⟨_, _, exec_decodePush p s, (exec_decodePop p _).trans (congrArg _ hpop), hpair, ?_, rfl, fun r hr => ?_⟩
  · exact BitVec.sub_add_cancel s.sp 2
  · cases r <;> first | rfl | exact absurd rfl hr

end Sys2Proof
end

section
/-! Decimal arithmetic (42_alu.md R168): DAA after ADD and after SUB on packed BCD bytes. -/

namespace Sys2Proof

open Sys2Proof.Machine Sys2Proof.Claims

/-- The low nibble is the remainder by 16. -/
theorem lowNibble_eq (v : Byte) : lowNibble v = v.toNat % 16 := by
  rw [lowNibble, BitVec.toNat_and]
  exact Nat.and_two_pow_sub_one_eq_mod _ 4

theorem bcd_toNat {x : Nat} (hx : x < 100) : (bcd x).toNat = 16 * (x / 10) + x % 10 := by
  rw [bcd, BitVec.toNat_ofNat, Nat.mod_eq_of_lt (by omega)]

theorem lowNibble_bcd {x : Nat} (hx : x < 100) : lowNibble (bcd x) = x % 10 := by
  rw [lowNibble_eq, bcd_toNat hx]
  omega

/-- DAA after ADD adds 0x60 exactly when the decimal sum passes 99, and 0x06 exactly when that of the units passes 9. -/
theorem daaResult_add {x y : Nat} (hx : x < 100) (hy : y < 100) :
    let r := add8 (bcd x) (bcd y) false
    daaResult r.value r.n r.h r.c = (bcd ((x + y) % 100), decide (x + y ≥ 100)) := by
  intro r
  have hX := bcd_toNat hx
  have hY := bcd_toNat hy
  have hv : r.value.toNat = ((bcd x).toNat + (bcd y).toNat) % 256 := by
    simp [r, add8, carryIn]
  have hc : r.c = decide ((bcd x).toNat + (bcd y).toNat > 0xFF) := rfl
  have hh : r.h = decide (x % 10 + y % 10 > 0x0F) := by rw [← lowNibble_bcd hx, ← lowNibble_bcd hy]; rfl
  have hbig : (r.c || decide (r.value.toNat > 0x99)) = decide (x + y ≥ 100) := by
    rw [hc, hv, ← Bool.decide_or, decide_eq_decide]
    omega
  have hlow : (r.h || decide (lowNibble r.value > 0x09)) = decide (x % 10 + y % 10 ≥ 10) := by
    rw [hh, lowNibble_eq, hv, ← Bool.decide_or, decide_eq_decide]
    omega
  have hn : r.n = false := rfl
  simp only [daaResult, hn, hbig, hlow]
  refine Prod.ext (BitVec.eq_of_toNat_eq ?_) rfl
  rw [bcd_toNat (Nat.mod_lt _ (by decide))]
  by_cases h1 : x + y ≥ 100 <;> by_cases h2 : x % 10 + y % 10 ≥ 10 <;>
    simp [h1, h2, hv] <;> omega

/-- DAA after SUB subtracts 0x60 exactly when the decimal difference borrows, and 0x06 exactly when that of the units
does. -/
theorem daaResult_sub {x y : Nat} (hx : x < 100) (hy : y < 100) :
    let r := sub8 (bcd x) (bcd y) false
    daaResult r.value r.n r.h r.c = (bcd ((x + 100 - y) % 100), decide (x < y)) := by
  intro r
  have hX := bcd_toNat hx
  have hY := bcd_toNat hy
  have hv : r.value.toNat = ((bcd x).toNat + 256 - (bcd y).toNat) % 256 := by
    simp [r, sub8, carryIn, BitVec.toNat_ofInt]
    omega
  have hc : r.c = decide (((bcd x).toNat : Int) - (bcd y).toNat - 0 < 0) := rfl
  have hh : r.h = decide (((x % 10 : Nat) : Int) - (y % 10 : Nat) - 0 < 0) := by
    rw [← lowNibble_bcd hx, ← lowNibble_bcd hy]; rfl
  have hbig : r.c = decide (x < y) := by
    rw [hc, decide_eq_decide]
    omega
  have hlow : r.h = decide (x % 10 < y % 10) := by
    rw [hh, decide_eq_decide]
    omega
  have hn : r.n = true := rfl
  simp only [daaResult, hn, hbig, hlow]
  refine Prod.ext (BitVec.eq_of_toNat_eq ?_) rfl
  rw [bcd_toNat (Nat.mod_lt _ (by decide))]
  by_cases h1 : x < y <;> by_cases h2 : x % 10 < y % 10 <;>
    simp [h1, h2, hv, BitVec.toNat_sub] <;> omega

/-- The flags that DAA reads are those the operation before it wrote. -/
theorem daa_after {t : State} {r : ByteResult} (ha : t.a = r.value) (hf : t.f = packF r.z r.n r.h r.c) :
    (daa t).a = (daaResult r.value r.n r.h r.c).1 ∧ (daa t).flagC = (daaResult r.value r.n r.h r.c).2 := by
  obtain ⟨-, hn, hh, hc⟩ := packF_bits r.z r.n r.h r.c
  have hr : daaResult t.a t.flagN t.flagH t.flagC = daaResult r.value r.n r.h r.c := by
    simp only [State.flagN, State.flagH, State.flagC, ha, hf, hn, hh, hc]
  rw [← hr]
  exact ⟨rfl, (packF_bits _ _ _ _).2.2.2⟩

/-- Settles O24: DAA after each operation gives the decimal digits of the result. -/
theorem decimalAdjustMakesBcdArithmetic : Obligations.DecimalAdjustMakesBcdArithmetic := by
  unfold Obligations.DecimalAdjustMakesBcdArithmetic
  intro x y hx hy s ha
  constructor
  · intro t h
    cases (show exec (.addAImm (bcd y)) s = .next (aluImm .add (bcd y) s) from rfl).symm.trans h
    have hd := daa_after (t := aluImm .add (bcd y) s) (r := add8 s.a (bcd y) false) rfl rfl
    rw [ha, daaResult_add hx hy] at hd
    exact ⟨_, rfl, hd⟩
  · intro t h
    cases (show exec (.subAImm (bcd y)) s = .next (aluImm .sub (bcd y) s) from rfl).symm.trans h
    have hd := daa_after (t := aluImm .sub (bcd y) s) (r := sub8 s.a (bcd y) false) rfl rfl
    rw [ha, daaResult_sub hx hy] at hd
    exact ⟨_, rfl, hd⟩

end Sys2Proof
end

section
/-! The loads (40_load8.md, 41_load16.md): the meaning of each family of the opcode maps, by table entry. -/

namespace Sys2Proof

open Sys2Proof.Machine

/-! ## Register operands (30_encoding.md R72) -/

theorem touchR_register (s : State) {r : R8} (h : r ≠ .hlMem) : s.touchR r = s := by
  cases r <;> first | rfl | exact absurd rfl h

theorem getR_fetch1 (s : State) {r : R8} (h : r ≠ .hlMem) : s.fetch1.getR r = s.getR r := by
  cases r <;> first | rfl | exact absurd rfl h

theorem getRp_fetch1 (s : State) (p : Rp) : s.fetch1.getRp p = s.getRp p := by cases p <;> rfl

theorem getRp2_fetch1 (s : State) (p : Rp2) : s.fetch1.getRp2 p = s.getRp2 p := by cases p <;> rfl

/-! ## The families of the loads -/

theorem exec_decodeLdR {y z : R8} (h : ¬(y = .hlMem ∧ z = .hlMem)) (s : State) :
    exec (decodeLdR y z) s = .next (ldR y z (if y = .hlMem ∨ z = .hlMem then 2 else 1) s) := by
  cases y <;> cases z <;> first | rfl | exact absurd ⟨rfl, rfl⟩ h

theorem encode_decodeLdR (y z : R8) : encode (decodeLdR y z) = [byteOfFields 1 (r8Index y) (r8Index z)] := by
  cases y <;> cases z <;> rfl

theorem exec_decodeLdRImm (r : R8) (n : Byte) (s : State) :
    exec (decodeLdRImm r n) s = .next (ldRImm r n (if r = .hlMem then 3 else 2) s) := by
  cases r <;> rfl

theorem exec_decodeLdRpImm (p : Rp) (nn : Word) (s : State) :
    exec (decodeLdRpImm p nn) s = .next (ldRpImm p nn s) := by
  cases p <;> rfl

/-! ## The statements -/

/-- Settles O4: each of the ten words decodes by evaluation. -/
theorem specExampleWordsDecode : Obligations.SpecExampleWordsDecode := by
  unfold Obligations.SpecExampleWordsDecode
  exact ⟨rfl, rfl, rfl, rfl, rfl, rfl, rfl, rfl, rfl, rfl⟩

/-- Settles O5: an operand that is a register is read without a bus call. -/
theorem ldRegisterToRegister : Obligations.LdRegisterToRegister := by
  unfold Obligations.LdRegisterToRegister
  intro y z hy hz
  refine ⟨encode_decodeLdR y z, fun s => ?_⟩
  rw [exec_decodeLdR fun h => hy h.1, if_neg (not_or.2 ⟨hy, hz⟩)]
  simp only [ldR, touchR_register _ hz, getR_fetch1 s hz]

/-- Settles O6: the one operand (HL) makes the one bus call. -/
theorem ldRegisterAndMemoryAtHl : Obligations.LdRegisterAndMemoryAtHl := by
  unfold Obligations.LdRegisterAndMemoryAtHl
  intro r hr
  refine ⟨encode_decodeLdR r .hlMem, encode_decodeLdR .hlMem r, fun s => ⟨?_, ?_⟩⟩
  · rw [exec_decodeLdR fun h => hr h.1, if_pos (.inr rfl)]
    rfl
  · rw [exec_decodeLdR fun h => hr h.2, if_pos (.inl rfl), ldR]
    simp only [touchR_register _ hr, getR_fetch1 s hr]
    rfl

/-- Settles O7: the byte after the opcode is stored. -/
theorem ldImmediateByte : Obligations.LdImmediateByte := by
  unfold Obligations.LdImmediateByte
  exact fun r n => ⟨by cases r <;> rfl, fun s => exec_decodeLdRImm r n s⟩

/-- Settles O8: the meanings are `loadA` and `storeA` at the pair. -/
theorem ldAccumulatorIndirect : Obligations.LdAccumulatorIndirect := by
  unfold Obligations.LdAccumulatorIndirect
  exact ⟨rfl, rfl, rfl, rfl, fun s => ⟨rfl, rfl, rfl, rfl⟩⟩

/-- Settles O9: the HL- forms add -1. -/
theorem ldAccumulatorMovesHl : Obligations.LdAccumulatorMovesHl := by
  unfold Obligations.LdAccumulatorMovesHl
  refine ⟨rfl, rfl, rfl, rfl, fun s => ⟨rfl, ?_, rfl, ?_⟩⟩ <;> rw [BitVec.sub_eq_add_neg] <;> rfl

/-- Settles O10: the meanings are `loadA` and `storeA` at an address of the I/O page. -/
theorem ldAccumulatorIoPage : Obligations.LdAccumulatorIoPage := by
  unfold Obligations.LdAccumulatorIoPage
  exact ⟨fun n => ⟨rfl, rfl⟩, rfl, rfl, fun s => ⟨fun n => ⟨rfl, rfl⟩, rfl, rfl⟩⟩

/-- Settles O11: the meanings are `loadA` and `storeA` at the word fetched. -/
theorem ldAccumulatorAbsolute : Obligations.LdAccumulatorAbsolute := by
  unfold Obligations.LdAccumulatorAbsolute
  exact fun nn => ⟨rfl, rfl, fun s => ⟨rfl, rfl⟩⟩

/-- Settles O12: the pair's row follows its index; a word is stored by two calls. -/
theorem ldSixteenBit : Obligations.LdSixteenBit := by
  unfold Obligations.LdSixteenBit
  exact ⟨fun p nn => ⟨by cases p <;> rfl, exec_decodeLdRpImm p nn⟩, fun nn => ⟨rfl, fun s => rfl⟩, rfl, fun s => rfl⟩

/-- Settles O13: a sign extension is the integer value of the byte. -/
theorem spPlusSignedOffset : Obligations.SpPlusSignedOffset := by
  unfold Obligations.SpPlusSignedOffset
  exact fun e => ⟨rfl, rfl, fun s => ⟨rfl, rfl⟩⟩

/-- Settles O14: the high byte goes to the old SP less one. -/
theorem pushStoresPairBelowSp : Obligations.PushStoresPairBelowSp := by
  unfold Obligations.PushStoresPairBelowSp
  intro p
  refine ⟨by cases p <;> rfl, fun s => ?_⟩
  rw [exec_decodePush, pushPair, getRp2_fetch1, ← pushed_high_addr]
  rfl

/-- Settles O15: the meaning is `Pop16` and a write of the pair. -/
theorem popLoadsPairFromSp : Obligations.PopLoadsPairFromSp := by
  unfold Obligations.PopLoadsPairFromSp
  exact fun p => ⟨by cases p <;> rfl, fun s => exec_decodePop p s⟩

end Sys2Proof
end

section
/-! Arithmetic, logic, rotates and bits (42_alu.md, 43_rotate_bit.md). -/

namespace Sys2Proof

open Sys2Proof.Machine Sys2Proof.Claims

/-! ## The families of the ALU -/

theorem exec_decodeAlu (op : AluOp) (z : R8) (s : State) :
    exec (decodeAlu op z) s = .next (aluR op z (if z = .hlMem then 2 else 1) s) := by
  cases op <;> cases z <;> rfl

theorem exec_decodeAluImm (op : AluOp) (n : Byte) (s : State) : exec (decodeAluImm op n) s = .next (aluImm op n s) := by
  cases op <;> rfl

theorem encode_decodeAlu (op : AluOp) (z : R8) :
    encode (decodeAlu op z) = [byteOfFields 2 (aluIndex op) (r8Index z)] := by
  cases op <;> cases z <;> rfl

theorem encode_decodeAluImm (op : AluOp) (n : Byte) :
    encode (decodeAluImm op n) = [byteOfFields 3 (aluIndex op) 6, n] := by
  cases op <;> rfl

/-- The nine forms of an ALU operation differ in the operand alone (42_alu.md R151). -/
theorem aluRow_of_applyAlu {op : AluOp} {effect : State → Byte → State} (h : ∀ s v, s.applyAlu op v = effect s v) :
    AluRow op (aluIndex op) (byteOfFields 3 (aluIndex op) 6) effect := by
  refine ⟨encode_decodeAlu op, encode_decodeAluImm op, fun s => ⟨fun z => ?_, fun n => ?_⟩⟩
  · rw [exec_decodeAlu, aluR, h]
  · rw [exec_decodeAluImm, aluImm, h]

/-- Settles O16: ADD and ADC are one sum with two carries in. -/
theorem addAndAdcResultAndFlags : Obligations.AddAndAdcResultAndFlags := by
  unfold Obligations.AddAndAdcResultAndFlags
  exact ⟨aluRow_of_applyAlu fun s v => rfl, aluRow_of_applyAlu fun s v => rfl⟩

/-- Settles O17: SUB, SBC and CP are one difference with two borrows in; CP gives A back. -/
theorem subSbcAndCpResultAndFlags : Obligations.SubSbcAndCpResultAndFlags := by
  unfold Obligations.SubSbcAndCpResultAndFlags
  exact ⟨aluRow_of_applyAlu fun s v => rfl, aluRow_of_applyAlu fun s v => rfl, aluRow_of_applyAlu fun s v => rfl⟩

/-- Settles O18: the three logical operations. -/
theorem logicResultAndFlags : Obligations.LogicResultAndFlags := by
  unfold Obligations.LogicResultAndFlags
  exact ⟨aluRow_of_applyAlu fun s v => rfl, aluRow_of_applyAlu fun s v => rfl, aluRow_of_applyAlu fun s v => rfl⟩

/-! ## INC, DEC and 16-bit arithmetic -/

theorem exec_decodeIncR (r : R8) (s : State) :
    exec (decodeIncR r) s = .next (incR r (if r = .hlMem then 3 else 1) s) := by
  cases r <;> rfl

theorem exec_decodeDecR (r : R8) (s : State) :
    exec (decodeDecR r) s = .next (decR r (if r = .hlMem then 3 else 1) s) := by
  cases r <;> rfl

/-- A low nibble compared as a number or as a byte. -/
theorem decide_lowNibble (v b : Byte) : decide (lowNibble v = b.toNat) = decide (v &&& 0x0F = b) :=
  decide_eq_decide.2 BitVec.toNat_inj

/-- Settles O19: INC and DEC write the operand they have read. -/
theorem incAndDecByte : Obligations.IncAndDecByte := by
  unfold Obligations.IncAndDecByte
  intro r
  refine ⟨by cases r <;> rfl, by cases r <;> rfl, fun s => ⟨?_, ?_⟩⟩
  · rw [exec_decodeIncR, ← decide_lowNibble]
    rfl
  · rw [exec_decodeDecR, ← decide_lowNibble]
    rfl

theorem exec_decodeIncRp (p : Rp) (s : State) : exec (decodeIncRp p) s = .next (incPair p s) := by cases p <;> rfl

theorem exec_decodeDecRp (p : Rp) (s : State) : exec (decodeDecRp p) s = .next (decPair p s) := by cases p <;> rfl

theorem exec_decodeAddHlRp (p : Rp) (s : State) : exec (decodeAddHlRp p) s = .next (addHl p s) := by cases p <;> rfl

/-- Settles O20: the fetch changes no pair. -/
theorem incAndDecPair : Obligations.IncAndDecPair := by
  unfold Obligations.IncAndDecPair
  intro p
  refine ⟨by cases p <;> rfl, by cases p <;> rfl, fun s => ⟨?_, ?_⟩⟩
  · rw [exec_decodeIncRp, incPair, getRp_fetch1]
  · rw [exec_decodeDecRp, decPair, getRp_fetch1]

/-- Settles O21: a sum of words is that of their values modulo 65536. -/
theorem addPairToHl : Obligations.AddPairToHl := by
  unfold Obligations.AddPairToHl
  intro p
  refine ⟨by cases p <;> rfl, fun s => ?_⟩
  have hsum : BitVec.ofNat 16 (s.hl.toNat + (s.getRp p).toNat) = s.hl + s.getRp p := by
    rw [BitVec.ofNat_add, BitVec.ofNat_toNat, BitVec.ofNat_toNat, BitVec.setWidth_eq, BitVec.setWidth_eq]
  rw [exec_decodeAddHlRp, addHl, getRp_fetch1, hsum]
  rfl

/-! ## DAA, CPL, SCF and CCF -/

theorem ofInt_sub (x y : Int) : BitVec.ofInt 8 (x - y) = BitVec.ofInt 8 x - BitVec.ofInt 8 y := by
  rw [Int.sub_eq_add_neg, BitVec.ofInt_add, BitVec.ofInt_neg, BitVec.sub_eq_add_neg]

/-- The value DAA adjusts A to, over the integers before truncation (42_alu.md R168). -/
def daaInt (a : Byte) (n h c : Bool) : Int :=
  if n then (a.toNat : Int) - (if c then 0x60 else 0) - (if h then 0x06 else 0)
  else (a.toNat : Int) + (if c || decide (a.toNat > 0x99) then 0x60 else 0)
    + (if h || decide (lowNibble a > 0x09) then 0x06 else 0)

theorem daaResult_eq (a : Byte) (n h c : Bool) :
    daaResult a n h c = (BitVec.ofInt 8 (daaInt a n h c), if n then c else c || decide (a.toNat > 0x99)) := by
  unfold daaResult daaInt
  cases n with
  | true => cases c <;> cases h <;> simp [ofInt_sub]
  | false =>
    generalize (c || decide (a.toNat > 0x99)) = up
    generalize (h || decide (lowNibble a > 0x09)) = low
    cases up <;> cases low <;> simp [BitVec.ofInt_add]

/-- Settles O22: the adjustments truncated one by one are their sum truncated. -/
theorem decimalAdjust : Obligations.DecimalAdjust := by
  unfold Obligations.DecimalAdjust
  refine ⟨rfl, fun s => ?_⟩
  have hr : daaResult s.fetch1.a s.fetch1.flagN s.fetch1.flagH s.fetch1.flagC = _ :=
    daaResult_eq s.a s.flagN s.flagH s.flagC
  change Host.Outcome.next (daa s) = _
  rw [daa, hr]
  rfl

/-- Settles O23: CPL is an exclusive or with all ones. -/
theorem complementAndCarryOperations : Obligations.ComplementAndCarryOperations := by
  unfold Obligations.ComplementAndCarryOperations
  refine ⟨rfl, rfl, rfl, fun s => ⟨?_, rfl, rfl⟩⟩
  rw [show s.a ^^^ 0xFF = ~~~s.a from BitVec.xor_allOnes]
  rfl

/-! ## Rotates and shifts -/

/-- The eight rotates and shifts (43_rotate_bit.md R205 to R212) in the terms of the statements. -/
def rotSpec (op : RotOp) (v : Byte) (cin : Bool) : Byte × Bool :=
  match op with
  | .rlc => (v.rotateLeft 1, v.getLsbD 7)
  | .rrc => (v.rotateRight 1, v.getLsbD 0)
  | .rl => ((v <<< 1) ||| bit0 cin, v.getLsbD 7)
  | .rr => ((v >>> 1) ||| bit7 cin, v.getLsbD 0)
  | .sla => (v <<< 1, v.getLsbD 7)
  | .sra => (v.sshiftRight 1, v.getLsbD 0)
  | .swap => (v.rotateLeft 4, false)
  | .srl => (v >>> 1, v.getLsbD 0)

theorem rotResult_eq_rotSpec (op : RotOp) : ∀ v c, rotResult op v c = rotSpec op v c := by
  cases op <;> decide

/-- A rotate or shift of the CB map, by what it makes of its operand. -/
theorem cbRow_of_rotSpec {i : R8 → Instr} (op : RotOp) {result : Byte → Bool → Byte} {out : Byte → Bool}
    (hen : ∀ r, encode (i r) = [0xCB, byteOfFields 0 (rotIndex op) (r8Index r)])
    (hex : ∀ r s, exec (i r) s = .next (cbRot op r s)) (h : ∀ v c, rotSpec op v c = (result v c, out v)) :
    CbRow i (rotIndex op) result out := by
  refine fun r => ⟨hen r, fun s => ?_⟩
  rw [hex, cbRot, rotResult_eq_rotSpec, h]
  rfl

/-- An accumulator rotate, by what it makes of A. -/
theorem accRow_of_rotSpec {i : Instr} (op : RotOp) {byte : Byte} {result : Byte → Bool → Byte} {out : Byte → Bool}
    (hen : encode i = [byte]) (hex : ∀ s, exec i s = .next (accRot op s))
    (h : ∀ v c, rotSpec op v c = (result v c, out v)) : AccRow i byte result out := by
  refine ⟨hen, fun s => ?_⟩
  rw [hex, accRot, rotResult_eq_rotSpec, h]
  rfl

/-- Settles O25: the accumulator rotates are four of the eight. -/
theorem accumulatorRotates : Obligations.AccumulatorRotates := by
  unfold Obligations.AccumulatorRotates
  exact ⟨accRow_of_rotSpec .rlc rfl (fun _ => rfl) fun _ _ => rfl,
    accRow_of_rotSpec .rrc rfl (fun _ => rfl) fun _ _ => rfl,
    accRow_of_rotSpec .rl rfl (fun _ => rfl) fun _ _ => rfl,
    accRow_of_rotSpec .rr rfl (fun _ => rfl) fun _ _ => rfl⟩

/-- Settles O26: each of the eight on every operand. -/
theorem cbRotatesAndShifts : Obligations.CbRotatesAndShifts := by
  unfold Obligations.CbRotatesAndShifts
  exact ⟨cbRow_of_rotSpec .rlc (fun _ => rfl) (fun _ _ => rfl) fun _ _ => rfl,
    cbRow_of_rotSpec .rrc (fun _ => rfl) (fun _ _ => rfl) fun _ _ => rfl,
    cbRow_of_rotSpec .rl (fun _ => rfl) (fun _ _ => rfl) fun _ _ => rfl,
    cbRow_of_rotSpec .rr (fun _ => rfl) (fun _ _ => rfl) fun _ _ => rfl,
    cbRow_of_rotSpec .sla (fun _ => rfl) (fun _ _ => rfl) fun _ _ => rfl,
    cbRow_of_rotSpec .sra (fun _ => rfl) (fun _ _ => rfl) fun _ _ => rfl,
    cbRow_of_rotSpec .swap (fun _ => rfl) (fun _ _ => rfl) fun _ _ => rfl,
    cbRow_of_rotSpec .srl (fun _ => rfl) (fun _ _ => rfl) fun _ _ => rfl⟩

/-! ## Single bits (R213 to R215) -/

theorem getLsbD_setBit (b : BitVec 3) (v : Byte) {j : Nat} (hj : j < 8) :
    (setBit b v).getLsbD j = if j = b.toNat then true else v.getLsbD j := by
  rw [setBit, BitVec.getLsbD_or, getLsbD_oneShift b.toNat hj]
  by_cases h : j = b.toNat <;> simp [h]

theorem getLsbD_resetBit (b : BitVec 3) (v : Byte) {j : Nat} (hj : j < 8) :
    (resetBit b v).getLsbD j = if j = b.toNat then false else v.getLsbD j := by
  rw [resetBit, BitVec.getLsbD_and, BitVec.getLsbD_not, getLsbD_oneShift b.toNat hj]
  by_cases h : j = b.toNat <;> simp [h, hj]

/-- Settles O27: BIT only tests; RES and SET write back a byte that differs in the one bit. -/
theorem bitTestResetAndSet : Obligations.BitTestResetAndSet := by
  unfold Obligations.BitTestResetAndSet
  intro b r
  refine ⟨rfl, rfl, rfl, fun s => ⟨rfl, ⟨resetBit b (s.fetch2.getR r), ?_, rfl⟩, setBit b (s.fetch2.getR r), ?_, rfl⟩⟩
  · exact fun j hj => getLsbD_resetBit b _ hj
  · exact fun j hj => getLsbD_setBit b _ hj

end Sys2Proof
end

section
/-! Control transfer and control of the core (44_control.md, 45_misc.md). -/

namespace Sys2Proof

open Sys2Proof.Machine

/-! ## The conditional families (30_encoding.md R75) -/

theorem exec_decodeJpCc (cc : Cc) (nn : Word) (s : State) : exec (decodeJpCc cc nn) s = .next (jpCc cc nn s) := by
  cases cc <;> rfl

theorem exec_decodeJrCc (cc : Cc) (e : Byte) (s : State) : exec (decodeJrCc cc e) s = .next (jrCc cc e s) := by
  cases cc <;> rfl

theorem exec_decodeCallCc (cc : Cc) (nn : Word) (s : State) :
    exec (decodeCallCc cc nn) s = .next (callCc cc nn s) := by
  cases cc <;> rfl

theorem exec_decodeRetCc (cc : Cc) (s : State) : exec (decodeRetCc cc) s = .next (retCc cc s) := by
  cases cc <;> rfl

theorem exec_decodeRst {y : Nat} (hy : y < 8) (s : State) :
    exec (decodeRst y) s = .next (rst (BitVec.ofNat 16 (8 * y)) s) := by
  interval_cases y <;> rfl

theorem encode_decodeRst {y : Nat} (hy : y < 8) : encode (decodeRst y) = [byteOfFields 3 y 7] := by
  interval_cases y <;> rfl

/-- Settles O28: a jump writes PC after the fetch. -/
theorem jumpAbsolute : Obligations.JumpAbsolute := by
  unfold Obligations.JumpAbsolute
  refine ⟨fun nn => ⟨rfl, fun cc => by cases cc <;> rfl, fun s => ⟨rfl, fun cc => exec_decodeJpCc cc nn s⟩⟩, rfl,
    fun s => rfl, fun s => ⟨rfl, rfl, rfl, rfl⟩⟩

/-- Settles O29: the target is relative to PC after the fetch, the offset sign-extended. -/
theorem jumpRelative : Obligations.JumpRelative := by
  unfold Obligations.JumpRelative
  exact fun e => ⟨rfl, fun cc => by cases cc <;> rfl, fun s => ⟨rfl, fun cc => exec_decodeJrCc cc e s⟩⟩

/-- A call or restart, by its two writes: the high byte goes to the old SP less one. -/
theorem push16_jump (s : State) (v target : Word) :
    (s.push16 v).jump target =
      { (({ s with sp := s.sp - 2 } : State).busWrite (s.sp - 2) (loByte v)).busWrite (s.sp - 1) (hiByte v) with
        pc := target } := by
  rw [← pushed_high_addr]
  rfl

/-- Settles O30: a call pushes PC after the fetch. -/
theorem callPushesReturnAddress : Obligations.CallPushesReturnAddress := by
  unfold Obligations.CallPushesReturnAddress
  refine fun nn => ⟨rfl, fun cc => by cases cc <;> rfl, fun s => ?_⟩
  have hcall : call nn s = _ := congrArg (·.tick 6) (push16_jump s.fetch3 s.fetch3.pc nn)
  refine ⟨congrArg Host.Outcome.next hcall, fun cc => (exec_decodeCallCc cc nn s).trans ?_⟩
  change Host.Outcome.next (if s.cond cc then call nn s else s.fetch3.tick 3) = _
  rw [hcall]
  rfl

/-- Settles O31: a return pops PC. -/
theorem returnPopsPc : Obligations.ReturnPopsPc := by
  unfold Obligations.ReturnPopsPc
  exact ⟨rfl, fun cc => by cases cc <;> rfl, fun s => ⟨rfl, fun cc => exec_decodeRetCc cc s⟩⟩

/-- Settles O32: RETI is RET with IME set. -/
theorem returnFromInterruptSetsIme : Obligations.ReturnFromInterruptSetsIme := by
  unfold Obligations.ReturnFromInterruptSetsIme
  exact ⟨rfl, fun s => rfl⟩

/-- Settles O33: the vector of row y is 8*y. -/
theorem restartPushesAndJumps : Obligations.RestartPushesAndJumps := by
  unfold Obligations.RestartPushesAndJumps
  intro y hy
  refine ⟨encode_decodeRst hy, fun s => ?_⟩
  rw [exec_decodeRst hy, rst, push16_jump]
  rfl

/-! ## Control of the core -/

/-- Settles O34: the three meanings are a fetch and the bits named. -/
theorem nopDiAndEi : Obligations.NopDiAndEi := by
  unfold Obligations.NopDiAndEi
  exact ⟨rfl, rfl, rfl, fun s => ⟨rfl, rfl, rfl⟩⟩

/-- Settles O35: the fetch has cleared halt_bug, so HALT sets it by its own poll alone. -/
theorem haltPollsAndArmsBug : Obligations.HaltPollsAndArmsBug := by
  unfold Obligations.HaltPollsAndArmsBug
  refine ⟨rfl, fun s => ?_⟩
  have hbug : (s.fetch1.haltBug || (!s.fetch1.ime && s.fetch1.pending)) =
      (decide (s.ime = false) && decide (s.fetch1.request ≠ 0)) := by
    have hi : (!s.fetch1.ime) = decide (s.ime = false) := by cases h : s.ime <;> simp [State.fetch1, h]
    have hp : s.fetch1.pending = decide (s.fetch1.request ≠ 0) := by
      rw [Bool.eq_iff_iff, decide_eq_true_iff]
      exact bne_iff_ne
    rw [hi, hp]
    rfl
  change Host.Outcome.next (halt s) = _
  rw [halt, hbug]
  rfl

/-- Settles O36: the policy selects the bit STOP sets. -/
theorem stopByPolicy : Obligations.StopByPolicy := by
  unfold Obligations.StopByPolicy
  refine ⟨rfl, fun s => ⟨fun hp => ?_, fun hp => ?_⟩⟩ <;>
  · change Host.Outcome.next (stop s) = _
    rw [stop, hp]

/-- The row of the byte 0xCB and the decoded instruction have one meaning (45_misc.md R265). -/
theorem exec_decodeCb (op2 : Byte) (s : State) : exec (decodeCb op2) s = execCbMap op2 s := by
  unfold decodeCb execCbMap
  obtain _ | _ | _ | _ := fieldX op2
  case zero => cases rotOfIndex (fieldY op2) <;> rfl
  all_goals rfl

theorem execCbMap_next (op2 : Byte) (s : State) : ∃ t, execCbMap op2 s = .next t := by
  unfold execCbMap
  split <;> exact ⟨_, rfl⟩

/-- Settles O37: both rows run the CB map; 0xCB read as a second byte has the fields of SET 1,E. -/
theorem cbByteRunsItsMapEntry : Obligations.CbByteRunsItsMapEntry := by
  unfold Obligations.CbByteRunsItsMapEntry
  refine ⟨fun op2 => ⟨rfl, fun b => rfl, decodeCb_wellFormed op2, fun s => ?_⟩, fun s hb h1 h2 => ?_⟩
  · obtain ⟨t, ht⟩ := execCbMap_next op2 s
    exact ⟨t, ht, (exec_decodeCb op2 s).trans ht⟩
  · have hpc : s.fetch1.pc = s.pc := by simp [State.fetch1, hb]
    rw [State.fetchInstr, hpc, h1, h2]
    rfl

/-- Settles O38: the eleven rows have one meaning, by the policy. -/
theorem undefinedByteByPolicy : Obligations.UndefinedByteByPolicy := by
  unfold Obligations.UndefinedByteByPolicy
  intro i op h
  obtain ⟨hen, -, hex⟩ := undefined_row h
  refine ⟨hen, fun s => ?_⟩
  rw [hex]
  obtain ⟨hl, he⟩ | ⟨hn, he⟩ := undefinedByte_cases op s
  · exact ⟨(fun hp => nomatch hl.symm.trans hp), fun _ => he⟩
  · exact ⟨fun _ => he, fun hp => nomatch hn.symm.trans hp⟩

end Sys2Proof
end
